-- ==== Sys2Proof/Word.lean ====
section
/-! DEFINITION. The word types of ABS-DB and the closed sets of names its rules use (00_scope.md R6, R7;
10_state.md R20 to R41). Their bit encodings stand in Decode.lean (operands) and Machine/Flags.lean (`STATUS`). -/

namespace Sys2Proof

/-- An event word `W` (R90). -/
abbrev EventWord := BitVec 32
/-- The cycle counter and the two deadlines (`CYCLE_W` = 64, R6, R21). -/
abbrev CycleWord := BitVec 64
/-- Speed and its signed adjustments (`SPEED_W` = 32, R6, R23). -/
abbrev SpeedWord := BitVec 32
/-- A queue cursor: `log2(QCAP) + 1` bits (R32). -/
abbrev Cursor := BitVec 9
/-- One 16-bit two's-complement sample (`SAMPLE_W` = 16, R6). -/
abbrev Sample := BitVec 16
abbrev Byte := BitVec 8

/-- SymbolState: what one queue entry holds (00_scope.md section 7; Tone = 1, Silence = 0, decision D8). -/
inductive SymbolState where
  | silence
  | tone
  deriving DecidableEq, Repr, Inhabited

/-- The Playback Scheduler's two states (R27; Tone = 1, Silent = 0). -/
inductive PlaybackState where
  | silent
  | tone
  deriving DecidableEq, Repr

/-- The two audio buffers (R30, R63; `SIL` = 0, `WAVE` = 1). -/
inductive BufferId where
  | sil
  | wave
  deriving DecidableEq, Repr

/-- The Debounce Controller's two states (R29; Armed = 0, Pending = 1). -/
inductive DebounceState where
  | armed
  | pending
  deriving DecidableEq, Repr

/-- The registers that `RD` can name, numbers 0 to 7 of R40. The reserved numbers 8 to 15 have no name. -/
inductive RegName where
  | cycle
  | speed
  | tickDl
  | rechkDl
  | status
  | qhead
  | qtail
  | qcount
  deriving DecidableEq, Repr

/-- The one cause of a fatal fault (R241). -/
inductive FaultCause where
  | txSubmitFail
  deriving DecidableEq, Repr

/-- `NBTN`, the number of buttons: 2 or 3 (R6, decision D12). -/
inductive ButtonCount where
  | two
  | three
  deriving DecidableEq, Repr

/-- Who causes an operation (00_scope.md section 6, R92). -/
inductive Agent where
  | producer
  | sched
  | edgeh
  | rechk
  | timebase
  | txp
  | pins
  | host
  deriving DecidableEq, Repr

end Sys2Proof
end

