-- ==== Sys2Proof/Config.lean ====
section
/-! DEFINITION. The implementation parameters of 00_scope.md R6: those with a value for this hardware as
constants, those the spec leaves OPEN as a record the machine carries, and the one free value. -/

namespace Sys2Proof

/-- The OPEN parameters (R6, 92_eei_decisions.md section 2): `NBTN`, `ADJ2`, `WAVE_A`, `WAVE_P`, `WAVE_N`.
They are arguments of the model: `State` carries them, nothing writes them, and statements hold for all of
them (log entry 4). -/
structure Config where
  buttons : ButtonCount
  adj2    : SpeedWord
  waveA   : Nat
  waveP   : Int
  waveN   : Nat
  deriving DecidableEq, Repr

namespace Config

/-- `QCAP`, entries of the Symbol Queue. -/
abbrev qcap : Nat := 256
/-- `BUF_LEN` (the document's `L`), samples per buffer. -/
abbrev bufLen : Nat := 32
/-- `FRAMES`, stereo frames per buffer. -/
abbrev frames : Nat := 16
/-- `SPEED_RESET`, cycles per tick after reset. -/
def speedReset : SpeedWord := 5000000#32
/-- `STEP`, the magnitude of one Speed adjustment. -/
def stepSize : SpeedWord := 600000#32
/-- `SETTLE`, the debounce settle delay in cycles. -/
def settle : CycleWord := 3000000#64

/-- The configuration of the test vectors (95_test_vectors.md section 2; `ADJ2` from vector DB-9).
DESIGN CHOICE, log entry 4: only `NBTN` = 2 is the spec's default, the other four are its example values. -/
def standard : Config :=
  { buttons := .two, adj2 := 1200000#32, waveA := 16000, waveP := 0, waveN := 1 }

/-- FREE VALUE (log entry 6): what queue cell `index` holds when nothing has written it since the reset
numbered `epoch`. R43 and 93_implementation_defined.md U3 leave it unspecified, so it has no body. -/
opaque unwrittenCell (epoch index : Nat) : SymbolState

end Config

end Sys2Proof
end

