-- ==== Sys2Proof/Syntax.lean ====
section
/-! DEFINITION. The twelve operations of ABS-DB (R2, R92), one constructor per row of the opcode table, with
their operands as the things they stand for (R93). -/

namespace Sys2Proof

/-- One atomic operation. -/
inductive Instr where
  /-- `NOP` (R225). -/
  | nop
  /-- `ENQ s` (R142). -/
  | enq (s : SymbolState)
  /-- `ENQR s, d` (R144). -/
  | enqr (s : SymbolState) (d : BitVec 16)
  /-- `EDGE` (R191). -/
  | edge
  /-- `LVL m` (R193): bit `i` is the new level of button `i`, 1 = released. -/
  | lvl (m : BitVec 3)
  /-- `XDONE` (R167). -/
  | xdone
  /-- `TXF f` (R168): `true` (1) = the next submit will be refused. -/
  | txf (f : Bool)
  /-- `CLK n` (R220, R221). -/
  | clk (n : BitVec 28)
  /-- `TICK` (R162). -/
  | tick
  /-- `RECHECK` (R195). -/
  | recheck
  /-- `RD r` (R223). -/
  | rd (r : RegName)
  /-- `RESET` (R224). -/
  | reset
  deriving DecidableEq, Repr

end Sys2Proof
end

