-- ==== Sys2Proof/WellFormed.lean ====
section
/-! DEFINITION. What makes an operation well-formed for a configuration (R93, R100), and what makes a
configuration one that can be built (R122, 93_implementation_defined.md U11). -/

namespace Sys2Proof

/-- `LVL` may name button 2 only when `NBTN` = 3 (R93, R100); every other operand is legal by its type. -/
def Instr.wellFormed (cfg : Config) : Instr → Bool
  | .lvl m => match cfg.buttons with
    | .two => !m.getLsbD 2
    | .three => true
  | .nop | .enq _ | .enqr _ _ | .edge | .xdone | .txf _ | .clk _ | .tick | .recheck | .rd _ | .reset => true

/-- The parameter constraints of R122: `1 <= A <= 65535`, `N >= 1`, `P` any integer (`L` = 32 is even). -/
def Config.wellFormed (cfg : Config) : Bool :=
  decide (1 ≤ cfg.waveA) && decide (cfg.waveA ≤ 65535) && decide (1 ≤ cfg.waveN)

/-- Why a configuration is refused when the block is built (R122, U11). -/
inductive ConfigRefusal where
  | amplitudeOutOfRange
  | noPeriod
  deriving DecidableEq, Repr

/-- Building a block: a configuration outside the constraints of R122 is refused. -/
def Config.build (cfg : Config) : Except ConfigRefusal Config :=
  if cfg.waveA < 1 ∨ 65535 < cfg.waveA then .error .amplitudeOutOfRange
  else if cfg.waveN < 1 then .error .noPeriod
  else .ok cfg

end Sys2Proof
end

