-- ==== Sys2Proof/Decode.lean ====
section
/-! DEFINITION. The event-word encoding (30_encoding.md R90 to R93, R100, R101): the opcode table, a decoder
total on every word and every list of bytes that refuses by name, and the encoder. -/

namespace Sys2Proof

/-! ## Encodings of the operands (R93) -/

/-- `s`: 1 = Tone, 0 = Silence. -/
def SymbolState.toBit : SymbolState → BitVec 1
  | .silence => 0#1
  | .tone => 1#1

def SymbolState.ofBool (b : Bool) : SymbolState := if b then .tone else .silence

/-- The register numbers of R40. -/
def RegName.number : RegName → BitVec 4
  | .cycle => 0#4
  | .speed => 1#4
  | .tickDl => 2#4
  | .rechkDl => 3#4
  | .status => 4#4
  | .qhead => 5#4
  | .qtail => 6#4
  | .qcount => 7#4

/-- The register a number names; numbers 8 to 15 are reserved (R40). -/
def RegName.ofNumber (r : BitVec 4) : Option RegName :=
  [RegName.cycle, .speed, .tickDl, .rechkDl, .status, .qhead, .qtail, .qcount].find? (·.number == r)

/-! ## The opcode table (R92) -/

/-- The names of the opcode table's rows. -/
inductive Mnemonic where
  | nop | enq | enqr | edge | lvl | xdone | txf | clk | tick | recheck | rd | reset
  deriving DecidableEq, Repr

/-- One row of R92: a word `W` can spell the operation only if `(W and mask) = bits`. -/
structure OpcodeRow where
  name : Mnemonic
  op   : BitVec 4
  bits : EventWord
  mask : EventWord
  deriving DecidableEq, Repr

def opcodeTable : List OpcodeRow :=
  [ ⟨.nop, 0x0#4, 0x00000000#32, 0xFFFFFFFF#32⟩,
    ⟨.enq, 0x1#4, 0x10000000#32, 0xFFFEFFFF#32⟩,
    ⟨.enqr, 0x2#4, 0x20000000#32, 0xFFFE0000#32⟩,
    ⟨.edge, 0x3#4, 0x30000000#32, 0xFFFFFFFF#32⟩,
    ⟨.lvl, 0x4#4, 0x40000000#32, 0xFFFFFFF8#32⟩,
    ⟨.xdone, 0x5#4, 0x50000000#32, 0xFFFFFFFF#32⟩,
    ⟨.txf, 0x6#4, 0x60000000#32, 0xFFFFFFFE#32⟩,
    ⟨.clk, 0x7#4, 0x70000000#32, 0xF0000000#32⟩,
    ⟨.tick, 0x8#4, 0x80000000#32, 0xFFFFFFFF#32⟩,
    ⟨.recheck, 0x9#4, 0x90000000#32, 0xFFFFFFFF#32⟩,
    ⟨.rd, 0xA#4, 0xA0000000#32, 0xFFFFFFF0#32⟩,
    ⟨.reset, 0xF#4, 0xF0000000#32, 0xFFFFFFFF#32⟩ ]

/-! ## Decoding (R101) -/

/-- Why a word is `Illegal` (R100), or why bytes hold no word (R65). -/
inductive Illegal where
  /-- `op` is 0xB, 0xC, 0xD or 0xE. -/
  | reservedOpcode
  /-- A bit that the operation's format does not name is 1. -/
  | unnamedBit
  /-- `LVL` with `W[2]` = 1 when `NBTN` = 2. -/
  | absentButton
  /-- `RD` of a register number 8 to 15. -/
  | reservedRegister
  /-- Fewer than the four bytes of one word. -/
  | truncated
  deriving DecidableEq, Repr

/-- Steps 4 and 5 of R101: the two extra conditions, and the operands cut out of the word. -/
def operandsOf (cfg : Config) (w : EventWord) : Mnemonic → Except Illegal Instr
  | .nop => .ok .nop
  | .enq => .ok (.enq (.ofBool (w.getLsbD 16)))
  | .enqr => .ok (.enqr (.ofBool (w.getLsbD 16)) (w.extractLsb' 0 16))
  | .edge => .ok .edge
  | .lvl =>
    if (Instr.lvl (w.extractLsb' 0 3)).wellFormed cfg then .ok (.lvl (w.extractLsb' 0 3))
    else .error .absentButton
  | .xdone => .ok .xdone
  | .txf => .ok (.txf (w.getLsbD 0))
  | .clk => .ok (.clk (w.extractLsb' 0 28))
  | .tick => .ok .tick
  | .recheck => .ok .recheck
  | .rd =>
    match RegName.ofNumber (w.extractLsb' 0 4) with
    | some r => .ok (.rd r)
    | none => .error .reservedRegister
  | .reset => .ok .reset

/-- The decoder of R101: find the row of `W[31:28]`, compare under the mask, then the operands. -/
def decode (cfg : Config) (w : EventWord) : Except Illegal Instr :=
  match opcodeTable.find? (fun row => row.op == w.extractLsb' 28 4) with
  | none => .error .reservedOpcode
  | some row => if w &&& row.mask = row.bits then operandsOf cfg w row.name else .error .unnamedBit

/-- A word from its four bytes, least significant first (R65). -/
def wordOfBytes (b0 b1 b2 b3 : Byte) : EventWord := b3 ++ b2 ++ b1 ++ b0

/-- The four bytes of a word, least significant first (R65). -/
def bytesOfWord (w : EventWord) : List Byte :=
  [w.extractLsb' 0 8, w.extractLsb' 8 8, w.extractLsb' 16 8, w.extractLsb' 24 8]

/-- Decode the first word of a serialised trace, giving the operation and the bytes that follow. -/
def decodeBytes (cfg : Config) : List Byte → Except Illegal (Instr × List Byte)
  | b0 :: b1 :: b2 :: b3 :: rest => (decode cfg (wordOfBytes b0 b1 b2 b3)).map (·, rest)
  | _ => .error .truncated

/-! ## Encoding (R91, R93) -/

/-- The event word of an operation, by the formats of R91: the opcode in `W[31:28]`, each operand at its place,
every other bit 0. -/
def encode : Instr → EventWord
  | .nop => 0x0#32 <<< 28
  | .enq s => 0x1#32 <<< 28 ||| s.toBit.setWidth 32 <<< 16
  | .enqr s d => 0x2#32 <<< 28 ||| s.toBit.setWidth 32 <<< 16 ||| d.setWidth 32
  | .edge => 0x3#32 <<< 28
  | .lvl m => 0x4#32 <<< 28 ||| m.setWidth 32
  | .xdone => 0x5#32 <<< 28
  | .txf f => 0x6#32 <<< 28 ||| (BitVec.ofBool f).setWidth 32
  | .clk n => 0x7#32 <<< 28 ||| n.setWidth 32
  | .tick => 0x8#32 <<< 28
  | .recheck => 0x9#32 <<< 28
  | .rd r => 0xA#32 <<< 28 ||| r.number.setWidth 32
  | .reset => 0xF#32 <<< 28

/-- The row of the opcode table an operation belongs to. -/
def Instr.mnemonic : Instr → Mnemonic
  | .nop => .nop
  | .enq _ => .enq
  | .enqr _ _ => .enqr
  | .edge => .edge
  | .lvl _ => .lvl
  | .xdone => .xdone
  | .txf _ => .txf
  | .clk _ => .clk
  | .tick => .tick
  | .recheck => .recheck
  | .rd _ => .rd
  | .reset => .reset

/-- The decoder on a row of the opcode table: `w` numbered as the table numbers bits, bits from `nbits` up
zero, laid out as four little-endian bytes (R65) and decoded for the standard configuration. -/
def decodeTableWord (nbits w : Nat) : Option Instr :=
  match decodeBytes Config.standard (bytesOfWord (BitVec.ofNat 32 (w % 2 ^ nbits))) with
  | .ok (i, _) => some i
  | .error _ => none

end Sys2Proof
end

