-- ==== Sys2Proof/Machine/State.lean ====
section
/-! DEFINITION. The state of ABS-DB (10_state.md R20 to R36, R43) as plain data, the outcomes its operations
return (R9), the ways a step may stop, and the machine right after reset. -/

namespace Sys2Proof.Machine

/-- `Q_MEM` (R33): the cells written since the last reset, as (index, entry) pairs with strictly rising
indices. An unlisted cell has no stored value (its content is unspecified: R43, log entry 6). -/
abbrev Memory := List (Nat × SymbolState)

/-- The value of an `Ok` outcome (R9), one form per operation rule. -/
inductive OkValue where
  /-- `Ok()`: `NOP`, `EDGE`, `LVL`, `TXF`, `CLK`, `RESET`. -/
  | done
  /-- `Ok(Accepted)` of `ENQ` (R142). -/
  | accepted
  /-- `Ok(Full)` of `ENQ` (R142). -/
  | full
  /-- `Ok(accepted, dropped)` of `ENQR` (R144). -/
  | counts (accepted dropped : Nat)
  /-- `Ok(Completed)` of `XDONE` (R167). -/
  | completed
  /-- `Ok(Ignored)` of `XDONE` (R167). -/
  | ignored
  /-- `Ok(next)` of `TICK` (R162). -/
  | played (next : PlaybackState)
  /-- `Ok(SPEED)` of `RECHECK` (R195). -/
  | speed (v : SpeedWord)
  /-- `Ok(zext_64(x[r]))` of `RD` (R223). -/
  | value (v : BitVec 64)
  deriving DecidableEq, Repr

/-- What an event word returns to its issuer (R9). -/
inductive EventOutcome where
  | ok (v : OkValue)
  | illegal
  | notEnabled
  | halted
  | fault (c : FaultCause)
  deriving DecidableEq, Repr

/-- Why the machine could stop with a fault: nothing can. The spec's one fault, `TX_SUBMIT_FAIL`, leaves a
defined state (`FAULT` = 1, R242 to R245) from which other operations go on, so it is a next state here, never
a stop (log entry 3). Nobody raises a `Fault`; an empty type is safe (no claim can rest on a stop). -/
inductive Fault : Type
  deriving DecidableEq, Repr

/-- Why an operation could have no meaning. `Illegal`, `NotEnabled` and `Halted` are outcomes the spec defines
(no state change, the next word is decoded normally: R9), hence next states, not refusals (log entry 3). -/
inductive Refusal where
  /-- Raised by `exec` for an operation that has no meaning in the model yet: no arm raises it. Safe. -/
  | notModelled (mnemonic : String)
  deriving DecidableEq, Repr

/-- The complete state of ABS-DB (R20), and last the model's own four fields. -/
structure State where
  /-- `CYCLE` (R21). -/
  cycle  : CycleWord
  /-- `SPEED` (R23). -/
  speed  : SpeedWord
  /-- `TICK_DL` (R25). -/
  tickDl : CycleWord
  /-- `DBST` (R29). -/
  dbst   : DebounceState
  /-- `RECHK_DL` (R26). -/
  rechkDl : CycleWord
  /-- `PSTATE` (R27). -/
  pstate : PlaybackState
  /-- `LED_N` (R28), the pin level: `false` = 0 = asserted. -/
  ledN   : Bool
  /-- `XVALID` (R30). -/
  xvalid : Bool
  /-- `XBUF` (R30). -/
  xbuf   : BufferId
  /-- `XDN` (R30). -/
  xdn    : Bool
  /-- `FAULT` (R31). -/
  fault  : Bool
  /-- `FCAUSE` (R31, R241). -/
  fcause : BitVec 4
  /-- `Q_MEM` (R33). -/
  qmem   : Memory
  /-- `QHEAD` (R32). -/
  qhead  : Cursor
  /-- `QTAIL` (R32). -/
  qtail  : Cursor
  /-- `BTN` (R34): bit `i` = level of button `i`; bit 2 is 0 when `NBTN` = 2 (log entry 8). -/
  btn    : BitVec 3
  /-- `TXF` (R35): `true` = 1 = the next submit will be refused. -/
  txf    : Bool
  /-- `TXLOG` (R36), the ghost log of submitted buffers, oldest first. -/
  txlog  : List BufferId
  /-- MODEL: the build configuration (R6, R45; log entry 4). No operation writes it. -/
  cfg    : Config
  /-- MODEL: how many `RESET`s have been performed; it picks the free contents of `Q_MEM` (log entry 6). -/
  resets : Nat
  /-- MODEL: the event words the environment issues next, oldest first (R2, R94; log entry 1). -/
  events : List EventWord
  /-- MODEL: the outcome of the last operation (R8, R9; log entry 3). -/
  result : Option EventOutcome
  deriving DecidableEq, Repr

/-- The levels of the buttons that exist: `NBTN` bits (R34). -/
def buttonLevels (cfg : Config) (m : BitVec 3) : BitVec 3 :=
  match cfg.buttons with
  | .two => m &&& 3#3
  | .three => m

/-- The power-on state (R43, R281) for a configuration and launch values of the two input latches. -/
def State.powerOn (cfg : Config) (btn : BitVec 3) (txf : Bool) : State :=
  { cycle := 0#64, speed := Config.speedReset, tickDl := Config.speedReset.setWidth 64, rechkDl := 0#64,
    pstate := .silent, ledN := true, dbst := .armed,
    xvalid := true, xbuf := .sil, xdn := false,
    fault := false, fcause := 0#4,
    qmem := [], qhead := 0#9, qtail := 0#9,
    btn := buttonLevels cfg btn, txf := txf, txlog := [.sil],
    cfg := cfg, resets := 0, events := [], result := none }

/-- The machine right after reset, with the spec's default launch values: all buttons released, transfers
accepted (R34, R35; log entries 4 and 5). -/
def State.reset : State := State.powerOn Config.standard 7#3 false

end Sys2Proof.Machine
end

