-- ==== Sys2Proof/Machine/Ops.lean ====
section
/-! DEFINITION. The shared operations: deadlines (R22), the queue's memory and cursors (R32, R62, R141 to R143),
the transfer handle (R30, R169), the fatal fault (R242) and the plain register updates the meanings are made of. -/

namespace Sys2Proof.Machine

/-- The three outcomes of a step of this machine. -/
abbrev StepOutcome := Host.Outcome State Fault Refusal

/-! ## Deadlines -/

/-- `due(D)`: `((CYCLE - D) mod 2^64) < 2^63` (R22). -/
def due (cycle deadline : CycleWord) : Bool := decide ((cycle - deadline).toNat < 2 ^ 63)

/-- How many cycles pass from `cycle` until `deadline` is due: 0 when it is due already. -/
def cyclesUntilDue (cycle deadline : CycleWord) : Nat :=
  if due cycle deadline then 0 else (deadline - cycle).toNat

/-! ## Queue cell space -/

/-- The canonical form of `Q_MEM`: strictly rising cell indices, each below `QCAP`. -/
abbrev Memory.wf (m : Memory) : Prop :=
  (m.map Prod.fst).Pairwise (· < ·) ∧ ∀ c ∈ m, c.1 < Config.qcap

/-- The entry stored in a cell, if anything has been written there since the last reset. -/
def Memory.read? : Memory → Nat → Option SymbolState
  | [], _ => none
  | (j, v) :: m, i => if j = i then some v else Memory.read? m i

/-- Store an entry, keeping the indices strictly rising. -/
def Memory.write : Memory → Nat → SymbolState → Memory
  | [], i, v => [(i, v)]
  | (j, u) :: m, i, v =>
    if i < j then (i, v) :: (j, u) :: m
    else if i = j then (i, v) :: m
    else (j, u) :: Memory.write m i v

/-- `MemRead(i, 1)` (R62). A cell that nothing has written since the last reset reads as a free value. -/
def State.readCell (s : State) (i : Nat) : SymbolState :=
  (s.qmem.read? i).getD (Config.unwrittenCell s.resets i)

/-- `MemWrite(i, 1, v)` (R62). -/
def State.writeCell (s : State) (i : Nat) (v : SymbolState) : State :=
  { s with qmem := s.qmem.write i v }

/-! ## Cursors -/

/-- `QCOUNT = (QTAIL - QHEAD) mod (2*QCAP)` (R32, R141). -/
def State.qcount (s : State) : Cursor := s.qtail - s.qhead

/-- The cell a cursor points at: the cursor mod `QCAP` (R32). -/
def cellOf (c : Cursor) : Nat := c.toNat % Config.qcap

/-- How many enqueues are accepted from here before `QCOUNT = QCAP`. -/
def State.freeSlots (s : State) : Cursor := BitVec.ofNat 9 Config.qcap - s.qcount

/-- Empty iff `QCOUNT = 0`, full iff `QCOUNT = QCAP` (R141). -/
def State.queueEmpty (s : State) : Bool := s.qcount == 0#9
def State.queueFull (s : State) : Bool := s.qcount == BitVec.ofNat 9 Config.qcap

/-- The accepted branch of `ENQ` (R142): write the cell, then publish it. -/
def State.push (s : State) (v : SymbolState) : State :=
  { s.writeCell (cellOf s.qtail) v with qtail := s.qtail + 1#9 }

/-- `n` accepted enqueues of one symbol, one after the other (R144). -/
def State.pushTimes : Nat → SymbolState → State → State
  | 0, _, s => s
  | n + 1, v, s => State.pushTimes n v (s.push v)

/-- Advance `QHEAD` past the entry it points at (R143). -/
def State.release (s : State) : State := { s with qhead := s.qhead + 1#9 }

/-- `dequeue()` (R143): read the cell, then release it; nothing when the queue is empty. -/
def State.dequeue (s : State) : Option SymbolState × State :=
  if s.queueEmpty then (none, s) else (some (s.readCell (cellOf s.qhead)), s.release)

/-- The abstract content of the queue, oldest first (R141). -/
def State.queueContents (s : State) : List SymbolState :=
  (List.range s.qcount.toNat).map fun k => s.readCell ((s.qhead.toNat + k) % Config.qcap)

/-! ## Transfer handle, playback state, indicator -/

/-- The playback state a dequeue leads to: Tone only for an explicit Tone entry (R162, R171). -/
def nextPlayback : Option SymbolState → PlaybackState
  | some .tone => .tone
  | some .silence => .silent
  | none => .silent

/-- The waveform-table mux (R163). -/
def muxBuffer : PlaybackState → BufferId
  | .tone => .wave
  | .silent => .sil

/-- The indicator's pin level, active low: `1 - next` (R164). -/
def indicatorLevel : PlaybackState → Bool
  | .tone => false
  | .silent => true

/-- Consume the outstanding handle (R162 step 1). -/
def State.consumeHandle (s : State) : State := { s with xvalid := false }

/-- Submit a transfer that the peripheral accepts (R169), with its line of the ghost log (R36). -/
def State.submit (s : State) (b : BufferId) : State :=
  { s with xvalid := true, xbuf := b, xdn := false, txlog := s.txlog ++ [b] }

/-- Enter a playback state and drive the indicator to it (R162 steps 3 and 4). -/
def State.showPlayback (s : State) (p : PlaybackState) : State :=
  { s with pstate := p, ledN := indicatorLevel p }

/-- The next tick's deadline, from the scheduled time of this one (R162 step 5, R165). -/
def State.reschedule (s : State) : State := { s with tickDl := s.tickDl + s.speed.setWidth 64 }

/-- The peripheral confirms completion of the transfer in flight (R167). -/
def State.confirmTransfer (s : State) : State := { s with xdn := true }

/-! ## Debounce, time base, input latches -/

/-- Schedule the one re-check `SETTLE` cycles from now (R191, R192). -/
def State.armRecheck (s : State) : State :=
  { s with rechkDl := s.cycle + Config.settle, dbst := .pending }

/-- Set the adjusted Speed and return to Armed (R195). -/
def State.finishRecheck (s : State) (v : SpeedWord) : State := { s with speed := v, dbst := .armed }

/-- The pin levels the environment drives (R193). -/
def State.setLevels (s : State) (m : BitVec 3) : State := { s with btn := buttonLevels s.cfg m }

/-- The condition the next submit will meet (R168). -/
def State.setTxCondition (s : State) (f : Bool) : State := { s with txf := f }

/-- `n` cycles elapse (R220, R221). -/
def State.elapse (s : State) (n : BitVec 28) : State := { s with cycle := s.cycle + n.setWidth 64 }

/-! ## Outcomes and the fatal fault -/

/-- `result <- v` (R8). -/
def State.answer (s : State) (o : EventOutcome) : State := { s with result := some o }

/-- The cause codes of R241. -/
def causeCode : FaultCause → BitVec 4
  | .txSubmitFail => 1#4

/-- `raise Fault(cause)` (R242): latch the fault and its cause, and answer with it. The rest of the operation
that raises it is not performed, and nothing else is saved (R243, R255). -/
def State.raiseFault (s : State) (c : FaultCause) : State :=
  { s with fault := true, fcause := causeCode c, result := some (.fault c) }

/-- The only way back from the fault is part of `RESET` (R31, R245). -/
def State.clearFault (s : State) : State := { s with fault := false, fcause := 0#4 }

/-- The operations of R244 that a latched fault halts: no state change, outcome `Halted`. -/
def unlessHalted (s : State) (body : State) : State :=
  if s.fault then s.answer .halted else body

end Sys2Proof.Machine
end

