-- ==== Sys2Proof/Machine/Flags.lean ====
section
/-! DEFINITION. The enabling conditions (R161, R194, R221, R222), the derived bit `TSTALL` (R37) and the packed
register `STATUS` (R41). -/

namespace Sys2Proof.Machine

/-- `recheck_enabled` (R194). -/
def State.recheckEnabled (s : State) : Bool :=
  !s.fault && s.dbst == .pending && due s.cycle s.rechkDl

/-- `tick_enabled` (R161). -/
def State.tickEnabled (s : State) : Bool :=
  !s.fault && due s.cycle s.tickDl && s.xvalid && s.xdn && !s.recheckEnabled

/-- `TSTALL` (R37): the tick is due and waits for the outstanding transfer. -/
def State.tstall (s : State) : Bool :=
  !s.fault && due s.cycle s.tickDl && s.xvalid && !s.xdn

/-- `CLK n` is enabled iff no urgent operation is enabled at the start of any of its `n` unit steps (R221,
R222). A deadline is due at the start of some unit step `k < n` iff fewer than `n` cycles are left until it is
due, so the condition is computed from the two distances. -/
def State.clkEnabled (s : State) (n : Nat) : Bool :=
  !(!s.fault && s.dbst == .pending && decide (cyclesUntilDue s.cycle s.rechkDl < n)) &&
  !(!s.fault && s.xvalid && s.xdn && decide (cyclesUntilDue s.cycle s.tickDl < n))

/-- Whether an operation is enabled where it stands: `TICK` (R161), `RECHECK` (R194) and `CLK` (R221) under their
conditions, every other operation always, also where a fault halts it (R142, R144, R167, R191, R244). -/
def State.enables (s : State) : Instr → Bool
  | .tick => s.tickEnabled
  | .recheck => s.recheckEnabled
  | .clk n => s.clkEnabled n.toNat
  | .nop | .enq _ | .enqr _ _ | .edge | .lvl _ | .xdone | .txf _ | .rd _ | .reset => true

/-- Whether an operation may stand in a run here (R227): it is one of the block's operations, so its word is not
`Illegal` under the configuration (R100), and it is enabled. -/
def State.admits (s : State) (i : Instr) : Bool := i.wellFormed s.cfg && s.enables i

/-! ## Bit encodings of the fields of `STATUS` (R27, R29, R30) -/

def playbackBit : PlaybackState → Bool
  | .silent => false
  | .tone => true

def debounceBit : DebounceState → Bool
  | .armed => false
  | .pending => true

def bufferBit : BufferId → Bool
  | .sil => false
  | .wave => true

/-- A one-bit field of `STATUS` at its place. -/
def flagAt (i : Nat) (b : Bool) : BitVec 16 := (BitVec.ofBool b).setWidth 16 <<< i

/-- `STATUS` (R41); bit 10 reads 0 when `NBTN` = 2. -/
def State.status (s : State) : BitVec 16 :=
  flagAt 0 (playbackBit s.pstate) ||| flagAt 1 s.ledN ||| flagAt 2 (debounceBit s.dbst) |||
    flagAt 3 s.xvalid ||| flagAt 4 (bufferBit s.xbuf) ||| flagAt 5 s.xdn ||| flagAt 6 s.fault |||
    flagAt 7 s.txf ||| (buttonLevels s.cfg s.btn).setWidth 16 <<< 8 ||| flagAt 11 s.tstall |||
    s.fcause.setWidth 16 <<< 12

end Sys2Proof.Machine
end

