-- ==== Sys2Proof/Machine/Operands.lean ====
section
/-! DEFINITION. What the operands of the operations name: the registers `x[r]` of `RD` (R40, R61) and the buttons'
adjustments `ADJ[i]` of `RECHECK` (R6, R195). -/

namespace Sys2Proof.Machine

/-- `x[r]`, zero-extended to 64 bits (R40, R61). -/
def State.readReg (s : State) : RegName → BitVec 64
  | .cycle => s.cycle
  | .speed => s.speed.setWidth 64
  | .tickDl => s.tickDl
  | .rechkDl => s.rechkDl
  | .status => s.status.setWidth 64
  | .qhead => s.qhead.setWidth 64
  | .qtail => s.qtail.setWidth 64
  | .qcount => s.qcount.setWidth 64

/-- `ADJ[i]` (R6): button 0 "faster", button 1 "slower", button 2 the open `ADJ2`. -/
def adjustment (cfg : Config) : Nat → SpeedWord
  | 0 => -Config.stepSize
  | 1 => Config.stepSize
  | _ => cfg.adj2

/-- `NBTN`. -/
def buttonCount : ButtonCount → Nat
  | .two => 2
  | .three => 3

/-- The Speed a re-check leaves (R195, R196): for each button found low, its adjustment, modulo 2^32. -/
def State.adjustedSpeed (s : State) : SpeedWord :=
  (List.range (buttonCount s.cfg.buttons)).foldl
    (fun speed i => if s.btn.getLsbD i then speed else speed + adjustment s.cfg i) s.speed

end Sys2Proof.Machine
end

