-- ==== Sys2Proof/Machine/Debounce.lean ====
section
/-! DEFINITION. The Debounce Controller's operations `EDGE`, `LVL` and `RECHECK` (43_debounce.md). -/

namespace Sys2Proof.Machine

/-- `EDGE` (R191): arm the re-check, from either state (last edge wins, R192). The source's pending flag is set
and acknowledged inside this one step (R44). -/
def execEdge (s : State) : StepOutcome :=
  .next <| unlessHalted s <| s.armRecheck.answer (.ok .done)

/-- `LVL m` (R193): an input latch, driven also while `FAULT` = 1. -/
def execLvl (m : BitVec 3) (s : State) : StepOutcome :=
  .next <| (s.setLevels m).answer (.ok .done)

/-- `RECHECK` (R195). -/
def execRecheck (s : State) : StepOutcome :=
  .next <| unlessHalted s <|
    if s.recheckEnabled then (s.finishRecheck s.adjustedSpeed).answer (.ok (.speed s.adjustedSpeed))
    else s.answer .notEnabled

end Sys2Proof.Machine
end

