-- ==== Sys2Proof/Machine/Playback.lean ====
section
/-! DEFINITION. The Playback Scheduler's operations `TICK`, `XDONE` and `TXF` (42_playback_scheduler.md). -/

namespace Sys2Proof.Machine

/-- The body of an enabled tick (R162): consume the handle, dequeue, submit or fault, drive the indicator,
reschedule. -/
def State.fireTick (s : State) : State :=
  let entry := s.consumeHandle.dequeue
  let next := nextPlayback entry.1
  if s.txf then entry.2.raiseFault .txSubmitFail
  else (((entry.2.submit (muxBuffer next)).showPlayback next).reschedule).answer (.ok (.played next))

/-- `TICK` (R162). -/
def execTick (s : State) : StepOutcome :=
  .next <| unlessHalted s <| if s.tickEnabled then s.fireTick else s.answer .notEnabled

/-- `XDONE` (R167): completion is a level, so a second one is ignored. -/
def execXdone (s : State) : StepOutcome :=
  .next <| unlessHalted s <|
    if s.xvalid && !s.xdn then s.confirmTransfer.answer (.ok .completed) else s.answer (.ok .ignored)

/-- `TXF f` (R168): an input latch, driven also while `FAULT` = 1. -/
def execTxf (f : Bool) (s : State) : StepOutcome :=
  .next <| (s.setTxCondition f).answer (.ok .done)

end Sys2Proof.Machine
end

