-- ==== Sys2Proof/Machine/Queue.lean ====
section
/-! DEFINITION. The producer's operations `ENQ` and `ENQR` (41_symbol_queue.md). -/

namespace Sys2Proof.Machine

/-- `ENQ s` (R142). -/
def execEnq (v : SymbolState) (s : State) : StepOutcome :=
  .next <| unlessHalted s <|
    if s.queueFull then s.answer (.ok .full) else (s.push v).answer (.ok .accepted)

/-- `ENQR s, d` (R144): `d` attempts; those up to the free slots are accepted, the rest dropped. -/
def execEnqr (v : SymbolState) (d : BitVec 16) (s : State) : StepOutcome :=
  let accepted := min d.toNat s.freeSlots.toNat
  .next <| unlessHalted s <|
    (State.pushTimes accepted v s).answer (.ok (.counts accepted (d.toNat - accepted)))

end Sys2Proof.Machine
end

