-- ==== Sys2Proof/Machine/TimeHost.lean ====
section
/-! DEFINITION. The time base's operation `CLK` and the host's `RD`, `RESET` and `NOP` (44_timebase_host.md). -/

namespace Sys2Proof.Machine

/-- `CLK n` (R220, R221): the whole word is refused if one of its unit steps would be. -/
def execClk (n : BitVec 28) (s : State) : StepOutcome :=
  .next <| if s.clkEnabled n.toNat then (s.elapse n).answer (.ok .done) else s.answer .notEnabled

/-- `RD r` (R223): no side effect. -/
def execRd (r : RegName) (s : State) : StepOutcome := .next <| s.answer (.ok (.value (s.readReg r)))

/-- The registers as `RESET` leaves them (R224, R43): everything but the input latches `BTN` and `TXF`. The
queue's cells keep unspecified content: none is listed and a fresh free value stands for each (log entry 6). -/
def State.restart (s : State) : State :=
  { s.clearFault with
    cycle := 0#64, speed := Config.speedReset, tickDl := Config.speedReset.setWidth 64, rechkDl := 0#64,
    pstate := .silent, ledN := true, dbst := .armed,
    qmem := [], qhead := 0#9, qtail := 0#9, resets := s.resets + 1,
    xvalid := true, xbuf := .sil, xdn := false, txlog := [.sil] }

/-- `RESET` (R224). -/
def execReset (s : State) : StepOutcome := .next <| s.restart.answer (.ok .done)

/-- `NOP` (R225). -/
def execNop (s : State) : StepOutcome := .next <| s.answer (.ok .done)

end Sys2Proof.Machine
end

