-- ==== Sys2Proof/Machine/Dispatch.lean ====
section
/-! DEFINITION. One arm per operation: each calls its meaning. -/

namespace Sys2Proof.Machine

def exec (i : Instr) (s : State) : Host.Outcome State Fault Refusal :=
  match i with
  | .nop => Sys2Proof.Machine.execNop s
  | .enq v => Sys2Proof.Machine.execEnq v s
  | .enqr v d => Sys2Proof.Machine.execEnqr v d s
  | .edge => Sys2Proof.Machine.execEdge s
  | .lvl m => Sys2Proof.Machine.execLvl m s
  | .xdone => Sys2Proof.Machine.execXdone s
  | .txf f => Sys2Proof.Machine.execTxf f s
  | .clk n => Sys2Proof.Machine.execClk n s
  | .tick => Sys2Proof.Machine.execTick s
  | .recheck => Sys2Proof.Machine.execRecheck s
  | .rd r => Sys2Proof.Machine.execRd r s
  | .reset => Sys2Proof.Machine.execReset s

end Sys2Proof.Machine
end

