-- ==== Sys2Proof/Machine/Events.lean ====
section
/-! DEFINITION. Where the next operation comes from (R2, R94, R226): an event word of the environment, or the
urgent operation the block performs itself. -/

namespace Sys2Proof.Machine

/-- Take the environment's next event word, if there is one. -/
def State.takeEvent (s : State) : Option (EventWord × State) :=
  match s.events with
  | [] => none
  | w :: rest => some (w, { s with events := rest })

/-- An `Illegal` word (R100): no state changes, and the next word is decoded normally. -/
def State.refuseWord (s : State) : State := s.answer .illegal

/-- The operation the block itself performs when nothing else is issued: the enabled urgent one, `RECHECK`
before `TICK` (R226, R253). -/
def State.urgentOperation (s : State) : Option Instr :=
  if s.recheckEnabled then some .recheck else if s.tickEnabled then some .tick else none

/-- Put an event word in front of the environment's other events. -/
def State.issue (s : State) (w : EventWord) : State := { s with events := w :: s.events }

/-- The word of `nbits` bits that the opcode table numbers `w` (every bit from `nbits` up is 0). -/
def tableWord (nbits w : Nat) : EventWord := BitVec.ofNat 32 (w % 2 ^ nbits)

end Sys2Proof.Machine
end

