-- ==== Sys2Proof/Machine/Step.lean ====
section
/-! DEFINITION. One step: the environment's next event word is decoded and performed; with no event waiting, the
block performs its enabled urgent operation, or nothing happens (R94, R226; log entries 1 and 2). -/

namespace Sys2Proof.Machine

def step (s : State) : Host.Outcome State Fault Refusal :=
  match s.takeEvent with
  | some (w, s') =>
    match decode s.cfg w with
    | .ok i => exec i s'
    | .error _ => .next s'.refuseWord
  | none =>
    match s.urgentOperation with
    | some i => exec i s
    | none => .next s

/-- The state whose next step runs the given row of the opcode table: its word stands first among the events. -/
def State.withFetchWord (s : State) (nbits w : Nat) : State := s.issue (tableWord nbits w)

end Sys2Proof.Machine
end

