-- ==== Sys2Proof/Machine/Environment.lean ====
section
/-! DEFINITION. The agents around the block (R92, R253, R262) and the Encoder Adapter that turns text into
`ENQR` operations (R147). -/

namespace Sys2Proof.Machine

/-- The agent an operation belongs to (R92). -/
def agentOf : Instr → Agent
  | .nop | .rd _ | .reset => .host
  | .enq _ | .enqr _ _ => .producer
  | .edge => .edgeh
  | .lvl _ => .pins
  | .xdone | .txf _ => .txp
  | .clk _ => .timebase
  | .tick => .sched
  | .recheck => .rechk

/-- The static priority levels, 1 highest; the other agents have no place in the order (R253). -/
def priorityOf : Agent → Option Nat
  | .edgeh => some 1
  | .rechk => some 2
  | .sched => some 3
  | .producer | .timebase | .txp | .pins | .host => none

/-- The largest duration one `ENQR` carries (R93). -/
abbrev maxDuration : Nat := 65535

/-- One pair of the encoder's output as `ENQR` operations; a longer duration is split (R104). -/
def expandPair (v : SymbolState) (d : Nat) : List Instr :=
  if d ≤ maxDuration then [.enqr v (BitVec.ofNat 16 d)]
  else List.replicate (d / maxDuration) (.enqr v (BitVec.ofNat 16 maxDuration)) ++
    [.enqr v (BitVec.ofNat 16 (d % maxDuration))]

/-- `PAIRS` (R104): the pairs in order. -/
def expandPairs (ps : List (SymbolState × Nat)) : List Instr := ps.flatMap fun p => expandPair p.1 p.2

/-- The external Morse encoder, a parameter of the environment: any function from text to a finite list of pairs
(R45; log entry 18). -/
abbrev Encoder := List Char → List (SymbolState × Nat)

/-- The encoder that answers each character by itself, characters in text order (R147). -/
def perCharacter (pairsOf : Char → List (SymbolState × Nat)) : Encoder := fun text => text.flatMap pairsOf

/-- The Encoder Adapter (R147): the pairs of the encoder's output for a text, in its order, as `ENQR` operations. -/
def encoderAdapter (encoder : Encoder) (text : List Char) : List Instr := expandPairs (encoder text)

end Sys2Proof.Machine
end

