-- ==== Sys2Proof/Machine/Settle.lean ====
section
/-! DEFINITION. Sequences of operations, and the block's own behaviour between environment events: `settle` and
`run(n)` (R226). -/

namespace Sys2Proof.Machine

/-- The state an operation leaves. -/
def State.after (s : State) (i : Instr) : State :=
  match exec i s with
  | .next t => t
  | .fault _ => s
  | .refused _ => s

/-- The operations of a list, one after the other. -/
def State.afterAll (s : State) (is : List Instr) : State := is.foldl State.after s

/-- At most `fuel` turns of the loop of `settle` (R226): the enabled urgent operation, until there is none. -/
def State.settleFor : Nat → State → State
  | 0, s => s
  | fuel + 1, s =>
    match s.urgentOperation with
    | some i => State.settleFor fuel (s.after i)
    | none => s

/-- `settle()` (R226). Two turns are enough: one `RECHECK` and one `TICK`. -/
def State.settle (s : State) : State := s.settleFor 2

/-- `run(n)` (R226): settle, then `n` times one cycle and settle. -/
def State.runCycles : Nat → State → State
  | 0, s => s.settle
  | n + 1, s => State.runCycles n (s.settle.after (.clk 1#28))

end Sys2Proof.Machine
end

