-- ==== Sys2Proof/Machine/Assembler.lean ====
section
/-! DEFINITION. The textual spelling of the operations (R103) and the pseudo-instructions with their expansions
(R104). Text is a list of characters. -/

namespace Sys2Proof.Machine

/-! ## Reading a line (R103) -/

/-- Words and commas of a line, up to a comment. -/
def tokensOf : List Char → List Char → List (List Char)
  | [], word => if word = [] then [] else [word.reverse]
  | c :: cs, word =>
    let done := if word = [] then [] else [word.reverse]
    if c = ';' then done
    else if c = ' ' ∨ c = '\t' then done ++ tokensOf cs []
    else if c = ',' then done ++ [[',']] ++ tokensOf cs []
    else tokensOf cs (c :: word)

/-- The digits of R103's numbers, each at the position of its value; the binary and the decimal ones are the first
two and the first ten. The second row spells the letters small (log entry 15). -/
def digitRows : List (List Char) := ["0123456789ABCDEF".toList, "0123456789abcdef".toList]

/-- The value of a digit: its position in a row. -/
def digitValue (c : Char) : Option Nat := digitRows.findSome? fun row => row.findIdx? (· == c)

/-- The value of a nonempty string of digits, all of them below the base. -/
def digitsValue (base : Nat) (cs : List Char) : Option Nat :=
  match cs.mapM digitValue with
  | some (d :: ds) =>
    if (d :: ds).all (· < base) then some ((d :: ds).foldl (fun value digit => value * base + digit) 0) else none
  | some [] => none
  | none => none

/-- A decimal or `0x` number. -/
def numberOf : List Char → Option Nat
  | '0' :: 'x' :: ds => digitsValue 16 ds
  | ds => digitsValue 10 ds

/-- A binary literal `0b…`, button 0 rightmost. -/
def levelsOf : List Char → Option Nat
  | '0' :: 'b' :: ds => digitsValue 2 ds
  | _ => none

/-- A number small enough for its field. -/
def fieldOf (n : Nat) (v : Option Nat) : Option (BitVec n) :=
  v.bind fun x => if x < 2 ^ n then some (BitVec.ofNat n x) else none

def symbolOf : List Char → Option SymbolState
  | ['T'] => some .tone
  | ['S'] => some .silence
  | _ => none

/-- The register names of R40. -/
def registerNames : List (List Char × RegName) :=
  [ ("CYCLE".toList, .cycle), ("SPEED".toList, .speed), ("TICK_DL".toList, .tickDl),
    ("RECHK_DL".toList, .rechkDl), ("STATUS".toList, .status), ("QHEAD".toList, .qhead),
    ("QTAIL".toList, .qtail), ("QCOUNT".toList, .qcount) ]

/-- A register by name or by number. -/
def registerOf (t : List Char) : Option RegName :=
  match registerNames.find? (·.1 = t) with
  | some p => some p.2
  | none => (fieldOf 4 (numberOf t)).bind RegName.ofNumber

/-- One operation from its line; an empty or comment line, or one that spells no operation, gives none. -/
def assembleLine (line : List Char) : Option Instr :=
  match tokensOf line [] with
  | [['N', 'O', 'P']] => some .nop
  | [['E', 'N', 'Q'], s] => (symbolOf s).map .enq
  | [['E', 'N', 'Q', 'R'], s, [','], d] => do
    let v ← symbolOf s
    let n ← fieldOf 16 (numberOf d)
    return .enqr v n
  | [['E', 'D', 'G', 'E']] => some .edge
  | [['L', 'V', 'L'], m] => (fieldOf 3 (levelsOf m)).map .lvl
  | [['X', 'D', 'O', 'N', 'E']] => some .xdone
  | [['T', 'X', 'F'], ['0']] => some (.txf false)
  | [['T', 'X', 'F'], ['1']] => some (.txf true)
  | [['C', 'L', 'K'], n] => (fieldOf 28 (numberOf n)).map .clk
  | [['T', 'I', 'C', 'K']] => some .tick
  | [['R', 'E', 'C', 'H', 'E', 'C', 'K']] => some .recheck
  | [['R', 'D'], r] => (registerOf r).map .rd
  | [['R', 'E', 'S', 'E', 'T']] => some .reset
  | _ => none

/-! ## Pseudo-instructions (R104) -/

inductive Pseudo where
  | tone
  | sil
  | pairs (ps : List (SymbolState × Nat))
  | wait (n : Nat)
  | press (button : Nat)
  | release (button : Nat)
  | run (n : Nat)
  deriving DecidableEq, Repr

/-- The longest time one `CLK` word carries (R93). -/
abbrev maxCycles : Nat := 268435455

/-- `WAIT n`. R104 gives the expansion for `n` above 268,435,455 only; one `CLK n` for a smaller `n` is the model's
DESIGN CHOICE (log entry 12). -/
def expandWait (n : Nat) : List Instr :=
  if n ≤ maxCycles then [.clk (BitVec.ofNat 28 n)]
  else List.replicate (n / maxCycles) (.clk (BitVec.ofNat 28 maxCycles)) ++ [.clk (BitVec.ofNat 28 (n % maxCycles))]

/-- How many of the next `n` cycles may pass before an urgent operation is enabled. -/
def State.idleCycles (s : State) (n : Nat) : Nat :=
  let untilRecheck := if !s.fault && s.dbst == .pending then cyclesUntilDue s.cycle s.rechkDl else n
  let untilTick := if !s.fault && s.xvalid && s.xdn then cyclesUntilDue s.cycle s.tickDl else n
  min n (min untilRecheck untilTick)

/-- `RUN n`: urgent words where the rules enable them, `CLK` words in between (log entry 12). -/
def runWords : Nat → Nat → State → List Instr
  | 0, _, _ => []
  | fuel + 1, n, s =>
    match s.urgentOperation with
    | some i => i :: runWords fuel n (s.after i)
    | none =>
      if n = 0 then []
      else
        let k := min maxCycles (s.idleCycles n)
        .clk (BitVec.ofNat 28 k) :: runWords fuel (n - k) (s.after (.clk (BitVec.ofNat 28 k)))

/-- The `LVL` operand that changes one button's bit of the current levels (R104). -/
def levelsWith (s : State) (button : Nat) (level : Bool) : BitVec 3 :=
  buttonLevels s.cfg
    (if level then s.btn ||| BitVec.twoPow 3 button else s.btn &&& ~~~ BitVec.twoPow 3 button)

/-- The expansion of a pseudo-instruction where it stands: the assembler tracks the state (R104). -/
def Pseudo.expand (s : State) : Pseudo → List Instr
  | .tone => [.enq .tone]
  | .sil => [.enq .silence]
  | .pairs ps => expandPairs ps
  | .wait n => expandWait n
  | .press i => [.lvl (levelsWith s i false)]
  | .release i => [.lvl (levelsWith s i true)]
  | .run n => runWords (n / maxCycles + 8) n s

end Sys2Proof.Machine
end

