-- ==== Sys2Proof/Machine/Waveform.lean ====
section
/-! DEFINITION. The sample space: the Waveform Table and the Silence Buffer (40_waveform_table.md), their layout
(R63, R64, R123, R124), their serialisation (R65), and the audio output the submitted buffers make (R36). -/

namespace Sys2Proof.Machine

/-! ## The generator's formula, as R121 prints it -/

/-- Floored modulo on the rationals (R7). -/
def ratMod (a m : Rat) : Rat := a - m * (a / m).floor

/-- `t(x) = 2 * N * (x + P + L/(4*N)) * A / (L/2)` (R121). -/
def waveT (L A : Nat) (P : Int) (N x : Nat) : Rat := 2 * N * (x + P + L / (4 * N)) * A / (L / 2)

/-- `sample(x) = floor(A - abs(t(x) mod 2A - A) - A/2)`, exactly over the rationals (R121, R122). -/
def sampleExact (L A : Nat) (P : Int) (N x : Nat) : Int :=
  ((A : Rat) - |ratMod (waveT L A P N x) (2 * A) - A| - A / 2).floor

/-! ## The same sample in integers -/

/-- `sample(x)` with every term multiplied by `2L`, so that only integers occur and one division rounds down
(R127; log entry 11). -/
def sample (L A : Nat) (P : Int) (N x : Nat) : Int :=
  let m : Int := (4 * N * A * (x + P) + A * L) % (2 * A * L)
  (A * L - 2 * ((m - A * L).natAbs : Int)) / (2 * L)

/-! ## Buffers -/

/-- `SampleRead(buf, idx)` (R64): zero in `SIL` (R124); frame `idx div 2` in `WAVE`, both channels alike (R123). -/
def sampleRead (cfg : Config) (b : BufferId) (idx : Nat) : Sample :=
  match b with
  | .sil => 0#16
  | .wave => BitVec.ofInt 16 (sample Config.bufLen cfg.waveA cfg.waveP cfg.waveN (idx / 2))

/-- The sample at a sample address: `buf = a[5]`, `idx = a[4:0]` (R63). -/
def sampleAt (cfg : Config) (a : BitVec 6) : Sample :=
  sampleRead cfg (if a.getLsbD 5 then .wave else .sil) (a.extractLsb' 0 5).toNat

/-- What a transfer of a buffer delivers, in order (R64). -/
def transferSamples (cfg : Config) (b : BufferId) : List Sample :=
  (List.range Config.bufLen).map (sampleRead cfg b)

/-- The audio output, abstractly: the submitted buffers back to back (R36). -/
def State.audioOutput (s : State) : List Sample := s.txlog.flatMap (transferSamples s.cfg)

/-- A sample as two bytes, least significant first (R65). -/
def bytesOfSample (v : Sample) : List Byte := [v.extractLsb' 0 8, v.extractLsb' 8 8]

end Sys2Proof.Machine
end

