-- ==== Sys2Proof/Safety.lean ====
section
/-! DEFINITION. The terms claims are stated in: the state invariants of R39 with what R33 and R36 add, runs
(R227), the histories of the queue and the tick, and the environment's duties (R262). -/

namespace Sys2Proof.Machine

/-- The reset table of R43, field by field, but for what it leaves unspecified (`Q_MEM`) or to the environment
(`BTN`, `TXF`). -/
structure State.AsReset (s : State) : Prop where
  cycle : s.cycle = 0#64
  speed : s.speed = 5000000#32
  tickDl : s.tickDl = 5000000#64
  rechkDl : s.rechkDl = 0#64
  pstate : s.pstate = .silent
  ledN : s.ledN = true
  dbst : s.dbst = .armed
  xvalid : s.xvalid = true
  xbuf : s.xbuf = .sil
  xdn : s.xdn = false
  fault : s.fault = false
  fcause : s.fcause = 0#4
  qhead : s.qhead = 0#9
  qtail : s.qtail = 0#9
  txlog : s.txlog = [.sil]

/-- The state invariants, true after reset and kept by every operation. -/
structure State.Inv (s : State) : Prop where
  /-- I-a of R39: without a fault exactly one handle is outstanding. -/
  handleOutstanding : s.fault = false → s.xvalid = true
  /-- I-b: while a handle is outstanding, `PSTATE` = `XBUF` and `LED_N` = 1 - `PSTATE`. -/
  outputsAgree : s.xvalid = true → s.xbuf = muxBuffer s.pstate ∧ s.ledN = !playbackBit s.pstate
  /-- I-c: `0 <= QCOUNT <= QCAP`. -/
  occupancy : s.qcount.toNat ≤ Config.qcap
  /-- I-d: after a fault no handle is outstanding and the cause is `TX_SUBMIT_FAIL`. -/
  faultRecorded : s.fault = true → s.xvalid = false ∧ s.fcause = 1#4
  /-- I-e: without a fault there is no cause. -/
  noFaultNoCause : s.fault = false → s.fcause = 0#4
  /-- The queue's memory is in canonical form. -/
  memoryCanonical : s.qmem.wf
  /-- R33: every occupied cell has been written since the last reset. -/
  occupiedWritten : ∀ k < s.qcount.toNat, (s.qmem.read? ((s.qhead.toNat + k) % Config.qcap)).isSome = true
  /-- R34: `BTN` has `NBTN` bits. -/
  buttonsExist : buttonLevels s.cfg s.btn = s.btn
  /-- R36: the last submitted buffer is the handle's. -/
  lastSubmitted : s.txlog.getLast? = some s.xbuf

/-- The word `w` spells the operation `i` of the agent `a`, in every configuration (R92). -/
def Spells (w : EventWord) (i : Instr) (a : Agent) : Prop := (∀ cfg, decode cfg w = .ok i) ∧ agentOf i = a

/-- A state without the fatal fault (R227): what a claim of correct playback assumes or concludes. -/
def State.Safe (s : State) : Prop := s.fault = false

/-- A sequence of operations is a run from `s` when each of them is an operation of the block under its configuration
and enabled where it stands (R227). An `LVL` that names an absent button is none (R100), and a `TICK` or `RECHECK` at
`FAULT` = 1 is halted, not enabled (R161, R194), so no run holds one of these. -/
def State.IsRun (s : State) : List Instr → Prop
  | [] => True
  | i :: is => s.admits i = true ∧ State.IsRun (s.after i) is

/-- The state an infinite sequence of operations has reached before its `n`-th operation. -/
def State.stateAt (s : State) (ops : Nat → Instr) : Nat → State
  | 0 => s
  | n + 1 => (s.stateAt ops n).after (ops n)

/-- An infinite sequence of operations is a run from `s` when each of them may stand where it stands (R2, R227). -/
def State.IsInfiniteRun (s : State) (ops : Nat → Instr) : Prop :=
  ∀ n, (s.stateAt ops n).admits (ops n) = true

/-- A finite or infinite sequence of operations (R2). No State holds one: it is the environment's schedule together
with the block's own operations (log entry 1). -/
inductive Schedule where
  | finite (ops : List Instr)
  | infinite (ops : Nat → Instr)

/-- The first `n` operations of a schedule, fewer when it ends before. -/
def Schedule.take (n : Nat) : Schedule → List Instr
  | .finite ops => ops.take n
  | .infinite ops => (List.range n).map ops

/-- A run from `s` (R2, R227). -/
def State.Runs (s : State) : Schedule → Prop
  | .finite ops => s.IsRun ops
  | .infinite ops => s.IsInfiniteRun ops

/-- A run of the hardware: it starts in the reset state with launch values of the two latches (R227). -/
def IsHardwareRun (cfg : Config) (btn : BitVec 3) (txf : Bool) (r : Schedule) : Prop :=
  (State.powerOn cfg btn txf).Runs r

/-! ## Histories -/

/-- The entries an operation adds to the queue: those its outcome reports as accepted (R142, R144). -/
def State.accepts (s : State) (i : Instr) : List SymbolState :=
  match i, (s.after i).result with
  | .enq v, some (.ok .accepted) => [v]
  | .enqr v _, some (.ok (.counts accepted _)) => List.replicate accepted v
  | _, _ => []

/-- The entry an operation takes off the queue: an enabled tick dequeues at most one (R143, R162). -/
def State.dequeues (s : State) (i : Instr) : List SymbolState :=
  if i = .tick ∧ s.tickEnabled = true ∧ s.queueEmpty = false then [s.readCell (cellOf s.qhead)] else []

/-- The entries accepted along a sequence of operations, in run order. -/
def State.acceptedAlong (s : State) : List Instr → List SymbolState
  | [] => []
  | i :: is => s.accepts i ++ State.acceptedAlong (s.after i) is

/-- The entries dequeued along a sequence of operations, in run order. -/
def State.dequeuedAlong (s : State) : List Instr → List SymbolState
  | [] => []
  | i :: is => s.dequeues i ++ State.dequeuedAlong (s.after i) is

/-- The Speeds read by the successful ticks of a sequence of operations, added up (R165). -/
def State.periodsAlong (s : State) : List Instr → CycleWord
  | [] => 0#64
  | i :: is =>
    (if i = .tick ∧ s.tickEnabled = true ∧ s.txf = false then s.speed.setWidth 64 else 0#64) +
      State.periodsAlong (s.after i) is

/-- The buffers submitted by the successful ticks of a sequence of operations (R36). -/
def State.submittedAlong (s : State) : List Instr → List BufferId
  | [] => []
  | i :: is =>
    (if i = .tick ∧ s.tickEnabled = true ∧ s.txf = false then [(s.after i).xbuf] else []) ++
      State.submittedAlong (s.after i) is

/-- How many `enqueue` attempts an operation makes (R142, R144). -/
def attempts : Instr → Nat
  | .enq _ => 1
  | .enqr _ d => d.toNat
  | .nop | .edge | .lvl _ | .xdone | .txf _ | .clk _ | .tick | .recheck | .rd _ | .reset => 0

/-! ## The environment's duties along an infinite run, premises of liveness claims only (R262, R292) -/

/-- The transmit peripheral completes every transfer in flight after a finite time: it issues `XDONE`, unless a
fault or a `RESET` takes the transfer away before. -/
def State.TransfersComplete (s : State) (ops : Nat → Instr) : Prop :=
  ∀ n, (s.stateAt ops n).xvalid = true → (s.stateAt ops n).xdn = false →
    ∃ m, n ≤ m ∧ (ops m = .xdone ∨ ops m = .reset ∨ (s.stateAt ops m).fault = true)

/-- Time passes: `CLK` occurs infinitely often, unless an urgent operation is enabled for ever. -/
def State.TimePasses (s : State) (ops : Nat → Instr) : Prop :=
  (∀ n, ∃ m, n ≤ m ∧ ∃ k, ops m = .clk k ∧ k ≠ 0#28) ∨
  ∃ n, ∀ m, n ≤ m → (s.stateAt ops m).urgentOperation ≠ none

/-- An infinite run from `s` in which the environment does its duties. -/
structure State.FairRun (s : State) (ops : Nat → Instr) : Prop where
  run : s.IsInfiniteRun ops
  transfers : s.TransfersComplete ops
  time : s.TimePasses ops

end Sys2Proof.Machine
end

