-- ==== Sys2Proof/Certificates/Slice0/Obligations.lean ====
section
/-! DEFINITION. The statements for the provers. Each says which rule of spec/ it formalises. -/

open Sys2Proof Sys2Proof.Machine

/-! ## Reset -/

/-- R43: the power-on state, for every configuration and every launch value of the input latches, is the reset
table; the latches hold their launch values (the levels of the buttons that exist). -/
def Obligations.PowerOnStateIsResetTable : Prop :=
  ∀ (cfg : Config) (btn : BitVec 3) (txf : Bool),
    (State.powerOn cfg btn txf).AsReset ∧
    (State.powerOn cfg btn txf).btn = buttonLevels cfg btn ∧ (State.powerOn cfg btn txf).txf = txf ∧
    (State.powerOn cfg btn txf).cfg = cfg ∧ State.reset.AsReset

/-- R224, R43: in every state the word 0xF0000000 completes, leaves the reset table, empties the queue, and keeps
`BTN` and `TXF`; `STATUS` then shows the two latches and 0x000A. No other operation leaves the fault state. -/
def Obligations.ResetRestoresTableKeepsLatches : Prop :=
  Spells 0xF0000000#32 .reset .host ∧
  ∀ s : State, ∃ t, exec .reset s = .next t ∧ t.AsReset ∧ t.queueContents = [] ∧ t.btn = s.btn ∧ t.txf = s.txf ∧
    t.result = some (.ok .done) ∧
    t.status = 0x000A#16 ||| (if s.txf then 0x0080#16 else 0#16) |||
      (buttonLevels s.cfg s.btn).setWidth 16 <<< 8 ∧
    (s.fault = true → ∀ i, i ≠ .reset → (s.after i).fault = true)

/-! ## Encoding -/

/-- R90 to R93, R101: decoding the word of a well-formed operation gives it back, whatever its operands. -/
def Obligations.DecodeOfEncodeIsIdentity : Prop :=
  ∀ (cfg : Config) (i : Instr), i.wellFormed cfg = true → decode cfg (encode i) = .ok i

/-- R91, R92: a word the decoder accepts is the word of the operation it gives, which is well-formed. -/
def Obligations.EncodeOfDecodeIsIdentity : Prop :=
  ∀ (cfg : Config) (w : EventWord) (i : Instr), decode cfg w = .ok i → encode i = w ∧ i.wellFormed cfg = true

/-- R100: a word is `Illegal` exactly when its opcode is reserved, or a bit its format does not name is 1, or it is
an `LVL` that names an absent button, or an `RD` of a reserved register. Such a word changes nothing, does not set
`FAULT`, and the next word is decoded normally. -/
def Obligations.IllegalWordsAreExactlyThese : Prop :=
  (∀ (cfg : Config) (w : EventWord),
    (∃ e, decode cfg w = .error e) ↔
      (w.extractLsb' 28 4 = 0xB#4 ∨ w.extractLsb' 28 4 = 0xC#4 ∨ w.extractLsb' 28 4 = 0xD#4 ∨
        w.extractLsb' 28 4 = 0xE#4) ∨
      (w.extractLsb' 28 4 ∈ [0x0#4, 0x3#4, 0x5#4, 0x8#4, 0x9#4, 0xF#4] ∧ w.extractLsb' 0 28 ≠ 0#28) ∨
      (w.extractLsb' 28 4 = 0x1#4 ∧ (w.extractLsb' 17 11 ≠ 0#11 ∨ w.extractLsb' 0 16 ≠ 0#16)) ∨
      (w.extractLsb' 28 4 = 0x2#4 ∧ w.extractLsb' 17 11 ≠ 0#11) ∨
      (w.extractLsb' 28 4 = 0x4#4 ∧
        (w.extractLsb' 3 25 ≠ 0#25 ∨ (cfg.buttons = .two ∧ w.getLsbD 2 = true))) ∨
      (w.extractLsb' 28 4 = 0x6#4 ∧ w.extractLsb' 1 27 ≠ 0#27) ∨
      (w.extractLsb' 28 4 = 0xA#4 ∧ (w.extractLsb' 4 24 ≠ 0#24 ∨ 8 ≤ (w.extractLsb' 0 4).toNat))) ∧
  (∀ (s : State) (w : EventWord) (rest : List EventWord), s.events = w :: rest → (∃ e, decode s.cfg w = .error e) →
    step s = .next { s with events := rest, result := some .illegal })

/-- R92, R103: words written out from the formats decode to the operations they spell. -/
def Obligations.SpelledWordsDecode : Prop :=
  decode Config.standard 0x10010000#32 = .ok (.enq .tone) ∧
  decode Config.standard 0x20010003#32 = .ok (.enqr .tone 3#16) ∧
  decode Config.standard 0x30000000#32 = .ok .edge ∧
  decode Config.standard 0x40000002#32 = .ok (.lvl 2#3) ∧
  decode Config.standard 0x60000001#32 = .ok (.txf true) ∧
  decode Config.standard 0x704C4B40#32 = .ok (.clk 5000000#28) ∧
  decode Config.standard 0x80000000#32 = .ok .tick ∧
  decode Config.standard 0xA0000004#32 = .ok (.rd .status)

/-- R65: four little-endian bytes carry one word; what follows them is left for the next one. -/
def Obligations.SerialisedWordDecodes : Prop :=
  ∀ (cfg : Config) (w : EventWord) (rest : List Byte),
    decodeBytes cfg (bytesOfWord w ++ rest) = (decode cfg w).map (·, rest)

/-! ## One step -/

/-- R94, R101: a step performs the operation its first event word decodes to, with that word taken away and
nothing else changed before. -/
def Obligations.StepRunsDecodedEvent : Prop :=
  ∀ (s : State) (w : EventWord) (rest : List EventWord) (i : Instr),
    s.events = w :: rest → decode s.cfg w = .ok i → step s = exec i { s with events := rest }

/-- R226, R253 (and log entry 2 for the idle step): with no event waiting, the block performs its enabled urgent
operation, the re-check before the tick; with none enabled nothing happens. -/
def Obligations.StepPerformsUrgentOperations : Prop :=
  ∀ s : State, s.events = [] →
    (s.recheckEnabled = true → step s = exec .recheck s) ∧
    (s.recheckEnabled = false → s.tickEnabled = true → step s = exec .tick s) ∧
    (s.recheckEnabled = false → s.tickEnabled = false → step s = .next s)

/-! ## The host's operations -/

/-- R225: the all-zero word is `NOP`, and it changes nothing. -/
def Obligations.NopChangesNothing : Prop :=
  Spells 0#32 .nop .host ∧ ∀ s : State, exec .nop s = .next { s with result := some (.ok .done) }

/-- R223 with the register numbers of R40: the words 0xA0000000 to 0xA0000007 read the registers 0 to 7, answer the
register's value, zero-extended, and change nothing; the numbers 8 to 15 are `Illegal`. -/
def Obligations.RdAnswersRegisterOnly : Prop :=
  (Spells 0xA0000000#32 (.rd .cycle) .host ∧ Spells 0xA0000001#32 (.rd .speed) .host ∧
    Spells 0xA0000002#32 (.rd .tickDl) .host ∧ Spells 0xA0000003#32 (.rd .rechkDl) .host ∧
    Spells 0xA0000004#32 (.rd .status) .host ∧ Spells 0xA0000005#32 (.rd .qhead) .host ∧
    Spells 0xA0000006#32 (.rd .qtail) .host ∧ Spells 0xA0000007#32 (.rd .qcount) .host) ∧
  (∀ (cfg : Config) (r : BitVec 4), 8 ≤ r.toNat →
    decode cfg (0xA0000000#32 ||| r.setWidth 32) = .error .reservedRegister) ∧
  ∀ (s : State),
    let read := fun r v => exec (.rd r) s = .next { s with result := some (.ok (.value v)) }
    read .cycle s.cycle ∧ read .speed (s.speed.setWidth 64) ∧ read .tickDl s.tickDl ∧ read .rechkDl s.rechkDl ∧
    read .status (s.status.setWidth 64) ∧ read .qhead (s.qhead.setWidth 64) ∧ read .qtail (s.qtail.setWidth 64) ∧
    read .qcount ((s.qtail - s.qhead).setWidth 64)

/-- R41: the layout of `STATUS`, with bit 10 zero when `NBTN` = 2 and every bit above 15 zero. -/
def Obligations.StatusPacksItsFields : Prop :=
  ∀ s : State,
    s.status.getLsbD 0 = decide (s.pstate = .tone) ∧ s.status.getLsbD 1 = s.ledN ∧
    s.status.getLsbD 2 = decide (s.dbst = .pending) ∧ s.status.getLsbD 3 = s.xvalid ∧
    s.status.getLsbD 4 = decide (s.xbuf = .wave) ∧ s.status.getLsbD 5 = s.xdn ∧ s.status.getLsbD 6 = s.fault ∧
    s.status.getLsbD 7 = s.txf ∧ s.status.getLsbD 8 = s.btn.getLsbD 0 ∧ s.status.getLsbD 9 = s.btn.getLsbD 1 ∧
    s.status.getLsbD 10 = (decide (s.cfg.buttons = .three) && s.btn.getLsbD 2) ∧
    (s.status.getLsbD 11 = true ↔
      s.fault = false ∧ (s.cycle - s.tickDl).toNat < 2 ^ 63 ∧ s.xvalid = true ∧ s.xdn = false) ∧
    s.status.extractLsb' 12 4 = s.fcause ∧ (s.readReg .status).toNat < 2 ^ 16

/-! ## Time base -/

/-- R22: `due` is the comparison of the difference modulo 2^64, or its sign; a deadline up to 2^63 - 1 cycles in the
past (0 included) is due, one 1 to 2^63 cycles ahead is not. -/
def Obligations.DueDistinguishesPastFromFuture : Prop :=
  (∀ c d : CycleWord, (due c d = true ↔ (c.toNat + 2 ^ 64 - d.toNat) % 2 ^ 64 < 2 ^ 63) ∧
    (due c d = true ↔ 0 ≤ (c - d).toInt)) ∧
  ∀ (c : CycleWord) (k : Nat),
    (k ≤ 2 ^ 63 - 1 → due c (c - BitVec.ofNat 64 k) = true) ∧
    (1 ≤ k → k ≤ 2 ^ 63 → due c (c + BitVec.ofNat 64 k) = false)

/-- R220: `CLK 1` advances `CYCLE` by one, modulo 2^64, and changes nothing else, unless an urgent operation is
enabled; after a fault none is. -/
def Obligations.ClkOneAdvancesOneCycle : Prop :=
  Spells 0x70000001#32 (.clk 1#28) .timebase ∧
  ∀ s : State,
    (s.fault = true → s.recheckEnabled = false ∧ s.tickEnabled = false) ∧
    (s.recheckEnabled = false → s.tickEnabled = false →
      exec (.clk 1#28) s = .next { s with cycle := s.cycle + 1#64, result := some (.ok .done) }) ∧
    (s.recheckEnabled = true ∨ s.tickEnabled = true →
      exec (.clk 1#28) s = .next { s with result := some .notEnabled })

/-- R221, R222: `CLK n` is `n` successive `CLK 1`. They are all performed iff neither urgent operation is enabled at
the start of any of them; then the word leaves the state they leave, and otherwise it is refused whole and changes
nothing. -/
def Obligations.ClkEqualsIteratedUnitSteps : Prop :=
  (∀ n : BitVec 28, Spells (0x70000000#32 ||| n.setWidth 32) (.clk n) .timebase) ∧
  ∀ (s : State) (n : BitVec 28),
    (s.IsRun (List.replicate n.toNat (.clk 1#28)) ↔
      ∀ k < n.toNat, ({ s with cycle := s.cycle + BitVec.ofNat 64 k } : State).recheckEnabled = false ∧
        ({ s with cycle := s.cycle + BitVec.ofNat 64 k } : State).tickEnabled = false) ∧
    (s.IsRun (List.replicate n.toNat (.clk 1#28)) →
      exec (.clk n) s = .next { s with cycle := s.cycle + n.setWidth 64, result := some (.ok .done) } ∧
      { s.after (.clk n) with result := none } =
        { s.afterAll (List.replicate n.toNat (.clk 1#28)) with result := none }) ∧
    (¬s.IsRun (List.replicate n.toNat (.clk 1#28)) →
      exec (.clk n) s = .next { s with result := some .notEnabled })

/-! ## Symbol Queue -/

/-- R142: `ENQ` below capacity stores its symbol in the cell `QTAIL` points at and advances `QTAIL`; every other
cell and register is as before. At capacity it drops the symbol; after a fault it is halted. -/
def Obligations.EnqStoresDropsOrHalts : Prop :=
  Spells 0x10000000#32 (.enq .silence) .producer ∧ Spells 0x10010000#32 (.enq .tone) .producer ∧
  ∀ (v : SymbolState) (s : State),
    (s.fault = false → (s.qtail - s.qhead).toNat ≠ 256 →
      ∃ t, exec (.enq v) s = .next t ∧ t.readCell (cellOf s.qtail) = v ∧
        (∀ a, a ≠ cellOf s.qtail → t.readCell a = s.readCell a) ∧ t.qtail = s.qtail + 1#9 ∧
        t.result = some (.ok .accepted) ∧
        { t with qmem := s.qmem, qtail := s.qtail, result := s.result } = s) ∧
    (s.fault = false → (s.qtail - s.qhead).toNat = 256 →
      exec (.enq v) s = .next { s with result := some (.ok .full) }) ∧
    (s.fault = true → exec (.enq v) s = .next { s with result := some .halted })

/-- R144: `ENQR s, d` leaves what `d` consecutive `ENQ s` leave and counts the accepted and the dropped attempts;
while the occupancy invariant holds, `min(d, QCAP - QCOUNT)` are accepted. After a fault it is halted. The word may be
split anywhere. -/
def Obligations.EnqrEqualsRepeatedEnq : Prop :=
  (∀ d : BitVec 16, Spells (0x20000000#32 ||| d.setWidth 32) (.enqr .silence d) .producer ∧
    Spells (0x20010000#32 ||| d.setWidth 32) (.enqr .tone d) .producer) ∧
  ∀ (v : SymbolState) (d : BitVec 16) (s : State),
    (s.fault = false → ∃ t accepted dropped, exec (.enqr v d) s = .next t ∧
      { t with result := none } = { s.afterAll (List.replicate d.toNat (.enq v)) with result := none } ∧
      t.result = some (.ok (.counts accepted dropped)) ∧ accepted + dropped = d.toNat ∧
      accepted = (s.acceptedAlong (List.replicate d.toNat (.enq v))).length ∧
      ((s.qtail - s.qhead).toNat ≤ 256 → accepted = min d.toNat (256 - (s.qtail - s.qhead).toNat))) ∧
    (s.fault = true → exec (.enqr v d) s = .next { s with result := some .halted }) ∧
    (∀ a : BitVec 16, a.toNat ≤ d.toNat →
      { s.after (.enqr v d) with result := none } =
        { (s.after (.enqr v a)).after (.enqr v (d - a)) with result := none })

/-- The frame of `ENQR` (R144): it stores only in the cells of its accepted attempts, `(QTAIL + k) mod QCAP`, and
changes no register but `QTAIL`. -/
def Obligations.EnqrStoresOnlyAcceptedCells : Prop :=
  ∀ (v : SymbolState) (d : BitVec 16) (s : State), s.fault = false → (s.qtail - s.qhead).toNat ≤ 256 →
    ∃ t, exec (.enqr v d) s = .next t ∧
      (∀ k < min d.toNat (256 - (s.qtail - s.qhead).toNat), t.readCell ((s.qtail.toNat + k) % 256) = v) ∧
      (∀ a, (∀ k < min d.toNat (256 - (s.qtail - s.qhead).toNat), a ≠ (s.qtail.toNat + k) % 256) →
        t.readCell a = s.readCell a) ∧
      t.qtail = s.qtail + BitVec.ofNat 9 (min d.toNat (256 - (s.qtail - s.qhead).toNat)) ∧
      { t with qmem := s.qmem, qtail := s.qtail, result := s.result } = s

/-- R145: a burst appends its symbols to the queue's content until it is full; only the newest are dropped and the
entries held keep their order. -/
def Obligations.OverflowDropsOnlyNewest : Prop :=
  ∀ (v : SymbolState) (d : BitVec 16) (s : State), s.fault = false → s.queueContents.length ≤ 256 →
    ∃ t, exec (.enqr v d) s = .next t ∧
      t.queueContents = s.queueContents ++ List.replicate (min d.toNat (256 - s.queueContents.length)) v ∧
      t.queueContents.length ≤ 256

/-- R146: over any sequence of operations without a `RESET`, in any interleaving, the entries held before followed
by those accepted are those dequeued followed by those held after: dequeue order is enqueue order. -/
def Obligations.QueueIsFirstInFirstOut : Prop :=
  ∀ (s : State) (is : List Instr), s.qcount.toNat ≤ 256 → .reset ∉ is →
    s.queueContents ++ s.acceptedAlong is = s.dequeuedAlong is ++ (s.afterAll is).queueContents

/-- R147, R45: for every encoder, the adapter's operations make as many enqueue attempts as the encoder's durations
add up to; durations that fit one word become one `ENQR` each, in order; and with an encoder that answers each
character by itself the adapter works character by character, in text order. -/
def Obligations.AdapterAttemptsSumOfDurations : Prop :=
  (∀ (encoder : Encoder) (text : List Char),
    ((encoderAdapter encoder text).map attempts).sum = ((encoder text).map Prod.snd).sum ∧
    ((∀ p ∈ encoder text, p.2 ≤ 65535) →
      encoderAdapter encoder text = (encoder text).map fun p => .enqr p.1 (BitVec.ofNat 16 p.2))) ∧
  (∀ (pairsOf : Char → List (SymbolState × Nat)) (c : Char) (text : List Char),
    encoderAdapter (perCharacter pairsOf) (c :: text) =
      expandPairs (pairsOf c) ++ encoderAdapter (perCharacter pairsOf) text)

/-! ## Playback Scheduler -/

/-- R161: the enabling condition of `TICK`, with `due` written out. While the tick is due and only the transfer is
outstanding it stalls and is not enabled; while it is enabled, no cycle can elapse. -/
def Obligations.TickEnablingConditionAsStated : Prop :=
  ∀ s : State,
    (s.tickEnabled = true ↔
      s.fault = false ∧ (s.cycle - s.tickDl).toNat < 2 ^ 63 ∧ s.xvalid = true ∧ s.xdn = true ∧
        s.recheckEnabled = false) ∧
    (s.tstall = true ↔
      s.fault = false ∧ (s.cycle - s.tickDl).toNat < 2 ^ 63 ∧ s.xvalid = true ∧ s.xdn = false) ∧
    (s.tstall = true → s.tickEnabled = false) ∧
    (s.tickEnabled = true → ∀ n ≠ 0#28, exec (.clk n) s = .next { s with result := some .notEnabled })

/-- R162, R163, R243: what `TICK` (word 0x80000000) does in each case. Enabled with the peripheral accepting, it plays
the oldest entry (Tone only for an explicit Tone entry), submits the matching buffer, drives the indicator and
reschedules from the scheduled time; with the peripheral refusing, it keeps the consumed handle and the dequeue
and latches the fault; otherwise it is refused or halted. -/
def Obligations.TickPlaysFaultsOrRefuses : Prop :=
  Spells 0x80000000#32 .tick .sched ∧
  ∀ s : State,
    let empty : Bool := decide (s.qtail - s.qhead = 0#9)
    let tone : Bool := !empty && decide (s.readCell (s.qhead.toNat % 256) = .tone)
    let head : Cursor := if empty then s.qhead else s.qhead + 1#9
    (s.tickEnabled = true → s.txf = false →
      exec .tick s = .next { s with
        qhead := head, xvalid := true, xbuf := if tone then .wave else .sil, xdn := false,
        txlog := s.txlog ++ [if tone then .wave else .sil], pstate := if tone then .tone else .silent,
        ledN := !tone, tickDl := s.tickDl + s.speed.setWidth 64,
        result := some (.ok (.played (if tone then .tone else .silent))) }) ∧
    (s.tickEnabled = true → s.txf = true →
      exec .tick s = .next { s with
        qhead := head, xvalid := false, fault := true, fcause := 1#4,
        result := some (.fault .txSubmitFail) }) ∧
    (s.fault = false → s.tickEnabled = false → exec .tick s = .next { s with result := some .notEnabled }) ∧
    (s.fault = true → exec .tick s = .next { s with result := some .halted })

/-- R171: a tick that finds the queue empty plays Silence and consumes nothing, whatever played before; an explicit
Silence entry gives the same outputs and is consumed. -/
def Obligations.EmptyQueuePlaysSilence : Prop :=
  ∀ s : State, s.tickEnabled = true → s.txf = false →
    (s.queueContents = [] ∨ s.queueContents.head? = some .silence) →
    ∃ t, exec .tick s = .next t ∧ t.pstate = .silent ∧ t.xbuf = .sil ∧ t.ledN = true ∧
      t.txlog = s.txlog ++ [.sil] ∧ t.result = some (.ok (.played .silent)) ∧
      (s.queueContents = [] → t.qhead = s.qhead) ∧
      (s.queueContents.head? = some .silence →
        t.qhead = s.qhead + 1#9 ∧ s.queueContents = .silence :: t.queueContents)

/-- R165: over any sequence of operations without a `RESET`, `TICK_DL` has moved by the sum of the Speeds its
successful ticks read: no drift, however late each ran. -/
def Obligations.ScheduleIsDriftFree : Prop :=
  ∀ (s : State) (is : List Instr), .reset ∉ is →
    (s.afterAll is).tickDl = s.tickDl + s.periodsAlong is

/-- R36 and I-f of R39: the log grows by exactly the buffers of the successful ticks. -/
def Obligations.TxlogRecordsEverySubmit : Prop :=
  ∀ (s : State) (is : List Instr), .reset ∉ is →
    (s.afterAll is).txlog = s.txlog ++ s.submittedAlong is

/-- R172: while the tick stalls it is not enabled, time passes (unless the re-check is due), and `XDONE` ends the
stall. Every other operation but `RESET` keeps it, `CLK` as long as the deadline still counts as past (R22). -/
def Obligations.StallEndsOnlyByCompletion : Prop :=
  ∀ s : State, s.tstall = true →
    s.tickEnabled = false ∧
    (s.recheckEnabled = false → ∃ t, exec (.clk 1#28) s = .next t ∧ t.cycle = s.cycle + 1#64) ∧
    (∃ t, exec .xdone s = .next t ∧ t.tstall = false ∧ t.result = some (.ok .completed) ∧
      (s.recheckEnabled = false → t.tickEnabled = true)) ∧
    ∀ i, i ≠ .xdone → i ≠ .reset → (∀ n, i = .clk n → due (s.cycle + n.setWidth 64) s.tickDl = true) →
      (s.after i).tstall = true

/-- R173: if the deadline a tick computes is already past, the next tick is enabled as soon as its transfer
completes, with no cycle in between. -/
def Obligations.LateTicksCatchUp : Prop :=
  ∀ s : State, s.tickEnabled = true → s.txf = false → due s.cycle (s.tickDl + s.speed.setWidth 64) = true →
    (s.after .tick).tstall = true ∧ ((s.after .tick).after .xdone).tickEnabled = true ∧
    ((s.after .tick).after .xdone).cycle = s.cycle

/-- R167: `XDONE` completes the transfer in flight; with nothing in flight it is ignored; after a fault it is
halted. -/
def Obligations.XdoneCompletesOrIsIgnored : Prop :=
  Spells 0x50000000#32 .xdone .txp ∧
  ∀ s : State,
    (s.fault = false → s.xvalid = true → s.xdn = false →
      exec .xdone s = .next { s with xdn := true, result := some (.ok .completed) }) ∧
    (s.fault = false → (s.xvalid = false ∨ s.xdn = true) →
      exec .xdone s = .next { s with result := some (.ok .ignored) }) ∧
    (s.fault = true → exec .xdone s = .next { s with result := some .halted })

/-- R168: the words 0x60000000 and 0x60000001 set the latch, in every state. -/
def Obligations.TxfDrivesItsLatch : Prop :=
  Spells 0x60000000#32 (.txf false) .txp ∧ Spells 0x60000001#32 (.txf true) .txp ∧
  ∀ (f : Bool) (s : State), exec (.txf f) s = .next { s with txf := f, result := some (.ok .done) }

/-! ## Debounce Controller -/

/-- R191: from either state `EDGE` schedules the one re-check `SETTLE` cycles ahead; after a fault it is halted. -/
def Obligations.EdgeArmsRecheck : Prop :=
  Spells 0x30000000#32 .edge .edgeh ∧
  ∀ s : State,
    (s.fault = false → exec .edge s =
      .next { s with rechkDl := s.cycle + 3000000#64, dbst := .pending, result := some (.ok .done) }) ∧
    (s.fault = true → exec .edge s = .next { s with result := some .halted })

/-- R193: `LVL` sets the levels of the buttons that exist, also while `FAULT` = 1, and raises no interrupt. -/
def Obligations.LvlDrivesThePins : Prop :=
  ∀ (m : BitVec 3) (cfg : Config), (cfg.buttons = .two → m.getLsbD 2 = false) →
    decode cfg (0x40000000#32 ||| m.setWidth 32) = .ok (.lvl m) ∧ agentOf (.lvl m) = .pins ∧
    ∀ s : State, s.cfg = cfg → exec (.lvl m) s = .next { s with btn := m, result := some (.ok .done) }

/-- R195: an enabled `RECHECK` adds the adjustment of every button found low, modulo 2^32, and returns to Armed;
otherwise it is refused or halted. -/
def Obligations.RecheckAdjustsRefusesOrHalts : Prop :=
  Spells 0x90000000#32 .recheck .rechk ∧
  ∀ s : State,
    let speed : SpeedWord := s.speed
      + (if s.btn.getLsbD 0 = false then -600000#32 else 0#32)
      + (if s.btn.getLsbD 1 = false then 600000#32 else 0#32)
      + (if s.cfg.buttons = .three ∧ s.btn.getLsbD 2 = false then s.cfg.adj2 else 0#32)
    (s.recheckEnabled = true → exec .recheck s =
      .next { s with speed := speed, dbst := .armed, result := some (.ok (.speed speed)) }) ∧
    (s.fault = false → s.recheckEnabled = false → exec .recheck s =
      .next { s with result := some .notEnabled }) ∧
    (s.fault = true → exec .recheck s = .next { s with result := some .halted })

/-- R196: the exact Speeds after one "faster" or one "slower" step alone, the wraps included. -/
def Obligations.SpeedWrapsWithoutClamp : Prop :=
  ∀ s : State, s.recheckEnabled = true → s.cfg.buttons = .two →
    (s.btn.getLsbD 0 = false → s.btn.getLsbD 1 = true → ∃ t, exec .recheck s = .next t ∧
      (s.speed.toNat < 600000 → t.speed.toNat = s.speed.toNat + 4294367296) ∧
      (600000 ≤ s.speed.toNat → t.speed.toNat = s.speed.toNat - 600000)) ∧
    (s.btn.getLsbD 0 = true → s.btn.getLsbD 1 = false → ∃ t, exec .recheck s = .next t ∧
      (4294367295 < s.speed.toNat → t.speed.toNat = s.speed.toNat - 4294367296) ∧
      (s.speed.toNat ≤ 4294367295 → t.speed.toNat = s.speed.toNat + 600000))

/-- R194: the enabling condition of `RECHECK`; after an `EDGE` it is enabled exactly from `SETTLE` cycles later on,
and not one cycle earlier; while it holds, neither a cycle nor the tick can pass. -/
def Obligations.RecheckEnabledExactlyAfterSettle : Prop :=
  ∀ s : State,
    (s.recheckEnabled = true ↔
      s.fault = false ∧ s.dbst = .pending ∧ (s.cycle - s.rechkDl).toNat < 2 ^ 63) ∧
    (s.fault = false → ∀ k < 2 ^ 63,
      (({ s.after .edge with cycle := s.cycle + BitVec.ofNat 64 k } : State).recheckEnabled = true ↔
        3000000 ≤ k)) ∧
    (s.recheckEnabled = true → s.tickEnabled = false ∧
      ∀ n ≠ 0#28, exec (.clk n) s = .next { s with result := some .notEnabled })

/-- R192: in a burst of edges, each within the settle delay of the one before, no re-check is enabled at any point
of the burst, and after the last edge exactly one is scheduled, `SETTLE` after that edge. An edge in the very cycle
in which the re-check is due postpones it. -/
def Obligations.EdgeBurstArmsOneRecheck : Prop :=
  (∀ (s : State) (gaps : List (BitVec 28)), s.fault = false → (∀ g ∈ gaps, g.toNat < 3000000) →
    (∀ ops, ops <+: gaps.flatMap (fun g => [.clk g, .edge]) →
      (s.afterAll (.edge :: ops)).recheckEnabled = false) ∧
    (let t := s.afterAll (.edge :: gaps.flatMap fun g => [.clk g, .edge])
     t.dbst = .pending ∧ t.rechkDl = t.cycle + 3000000#64 ∧ t.speed = s.speed)) ∧
  (∀ s : State, s.recheckEnabled = true →
    (s.after .edge).recheckEnabled = false ∧ (s.after .edge).rechkDl = s.cycle + 3000000#64 ∧
    (s.after .edge).dbst = .pending ∧ (s.after .edge).speed = s.speed)

/-- R198: without an edge there is no re-check and no adjustment, however long a button stays low. -/
def Obligations.NoAdjustmentWithoutEdge : Prop :=
  ∀ (s : State) (is : List Instr), s.dbst = .armed → .edge ∉ is → .reset ∉ is →
    (s.afterAll is).speed = s.speed ∧ (s.afterAll is).dbst = .armed

/-- R201, R254: when both are due in the same cycle the tick is refused, and after the re-check it is enabled and
reschedules with the adjusted Speed. -/
def Obligations.RecheckGoesBeforeTick : Prop :=
  ∀ s : State, s.recheckEnabled = true → due s.cycle s.tickDl = true → s.xvalid = true → s.xdn = true →
    exec .tick s = .next { s with result := some .notEnabled } ∧
    ∃ t, exec .recheck s = .next t ∧ t.tickDl = s.tickDl ∧ t.tickEnabled = true ∧
      (t.txf = false → ∃ u, exec .tick t = .next u ∧ u.tickDl = s.tickDl + t.speed.setWidth 64)

/-! ## Faults -/

/-- R244: while `FAULT` = 1, `ENQ`, `ENQR`, `EDGE`, `RECHECK`, `TICK` and `XDONE` answer `Halted` and change nothing;
`CLK` still advances `CYCLE`, `LVL` and `TXF` still set their latches, `RD` and `NOP` work, `RESET` clears it. -/
def Obligations.FaultHaltsEveryContext : Prop :=
  ∀ s : State, s.fault = true →
    (∀ i, (i = .edge ∨ i = .recheck ∨ i = .tick ∨ i = .xdone ∨ (∃ v, i = .enq v) ∨ (∃ v d, i = .enqr v d)) →
      exec i s = .next { s with result := some .halted }) ∧
    (∀ n, exec (.clk n) s = .next { s with cycle := s.cycle + n.setWidth 64, result := some (.ok .done) }) ∧
    (∀ m, exec (.lvl m) s = .next { s with btn := buttonLevels s.cfg m, result := some (.ok .done) }) ∧
    (∀ f, exec (.txf f) s = .next { s with txf := f, result := some (.ok .done) }) ∧
    (∀ r, exec (.rd r) s = .next { s with result := some (.ok (.value (s.readReg r))) }) ∧
    exec .nop s = .next { s with result := some (.ok .done) } ∧
    ∃ t, exec .reset s = .next t ∧ t.fault = false ∧ t.fcause = 0#4

/-- R31, R245: only `RESET` leaves the fault; until then `SPEED` never changes and no transfer is submitted. -/
def Obligations.FaultIsStickyUntilReset : Prop :=
  ∀ (s : State) (is : List Instr), s.fault = true → .reset ∉ is →
    let t := s.afterAll is
    t.fault = true ∧ t.fcause = s.fcause ∧ t.speed = s.speed ∧ t.txlog = s.txlog ∧ t.tickDl = s.tickDl ∧
      t.ledN = s.ledN ∧ t.pstate = s.pstate ∧ t.queueContents = s.queueContents

/-! ## The whole machine -/

/-- R42: each register is written only by its one agent besides `RESET`; cells of the queue by the producer only. -/
def Obligations.EachRegisterHasOneWriter : Prop :=
  ∀ (i : Instr) (s t : State), exec i s = .next t → i ≠ .reset →
    ((∀ n, i ≠ .clk n) → t.cycle = s.cycle) ∧
    (i ≠ .recheck → t.speed = s.speed) ∧
    (i ≠ .tick → t.tickDl = s.tickDl ∧ t.pstate = s.pstate ∧ t.ledN = s.ledN ∧ t.xvalid = s.xvalid ∧
      t.xbuf = s.xbuf ∧ t.qhead = s.qhead ∧ t.fault = s.fault ∧ t.fcause = s.fcause ∧ t.txlog = s.txlog) ∧
    (i ≠ .tick → i ≠ .xdone → t.xdn = s.xdn) ∧
    (i = .tick → t.xdn = true → s.xdn = true) ∧ (i = .xdone → s.xdn = true → t.xdn = true) ∧
    (i ≠ .edge → t.rechkDl = s.rechkDl) ∧
    (i ≠ .edge → i ≠ .recheck → t.dbst = s.dbst) ∧
    (i = .edge → s.dbst = .pending → t.dbst = .pending) ∧ (i = .recheck → t.dbst = .pending → s.dbst = .pending) ∧
    ((∀ v, i ≠ .enq v) → (∀ v d, i ≠ .enqr v d) → t.qtail = s.qtail ∧ ∀ a, t.readCell a = s.readCell a) ∧
    ((∀ m, i ≠ .lvl m) → t.btn = s.btn) ∧
    ((∀ f, i ≠ .txf f) → t.txf = s.txf)

/-- Three of the model's own fields (log entries 1, 4, 6; the fourth, `result`, is the outcome every operation
records, log entry 3): no operation, `RESET` included, writes the configuration or the
waiting event words, and only `RESET` advances the counter that picks the free contents of `Q_MEM`. -/
def Obligations.ConfigAndEventsKeptResetsCounted : Prop :=
  ∀ (i : Instr) (s t : State), exec i s = .next t →
    t.cfg = s.cfg ∧ t.events = s.events ∧ t.resets = if i = .reset then s.resets + 1 else s.resets

/-- R227: a run holds enabled operations only, none of them with an `Illegal` word, and so does every prefix of it. The operations that can be disabled
are `TICK`, `RECHECK` and `CLK`; a disabled one changes nothing and answers `Halted` after a fault (`CLK` is never
disabled there), else `NotEnabled`. From every state a run can go on. -/
def Obligations.RunsHoldEnabledOperationsOnly : Prop :=
  (∀ (s : State) (i : Instr), s.enables i = false →
    exec i s = .next { s with result := some (if s.fault then .halted else .notEnabled) } ∧
    ((i = .tick ∧ s.tickEnabled = false) ∨ (i = .recheck ∧ s.recheckEnabled = false) ∨
      (s.fault = false ∧ ∃ n, i = .clk n))) ∧
  (∀ (s : State) (i : Instr), s.enables i = true → (s.after i).result ≠ some .notEnabled) ∧
  (∀ (s : State) (before after : List Instr) (i : Instr), s.IsRun (before ++ i :: after) →
    s.IsRun before ∧ (∃ w, decode s.cfg w = .ok i) ∧ (s.afterAll before).enables i = true) ∧
  (∀ (s : State) (before : List Instr), s.fault = true → s.IsRun before → .reset ∉ before →
    .tick ∉ before ∧ .recheck ∉ before) ∧
  (∀ (cfg : Config) (btn : BitVec 3) (txf : Bool) (before : List Instr), IsHardwareRun cfg btn txf (.finite before) →
    ∀ r, IsHardwareRun cfg btn txf (.finite (before ++ [.rd r])))

/-- R2, R227: a finite or infinite schedule is a run exactly when each of its finite beginnings is one, and every
finite run from a state is the beginning of an infinite one. -/
def Obligations.RunsAreFiniteOrInfinite : Prop :=
  (∀ (s : State) (r : Schedule), s.Runs r ↔ ∀ n, s.Runs (.finite (r.take n))) ∧
  (∀ (s : State) (before : List Instr), s.IsRun before →
    ∃ ops, s.Runs (.infinite ops) ∧ (Schedule.infinite ops).take before.length = before)

/-- R2 (and log entry 1 for the form): along any infinite schedule whose operations are well-formed, the machine whose
next event word is the schedule's next operation's steps from each state of the schedule to the following one; every
infinite run is such a schedule. -/
def Obligations.StepsFollowInfiniteSchedules : Prop :=
  ∀ (s : State) (ops : Nat → Instr),
    ((∀ n, (ops n).wellFormed s.cfg = true) →
      ∀ n, step ((s.stateAt ops n).issue (encode (ops n))) = .next (s.stateAt ops (n + 1))) ∧
    (s.IsInfiniteRun ops → ∀ n, (ops n).wellFormed s.cfg = true)

/-- R39 (I-a to I-e), with R33, R34 and R36: every step keeps the invariants. -/
def Obligations.StepKeepsInvariant : Prop :=
  ∀ s t : State, s.Inv → step s = .next t → t.Inv

/-- R39: the invariants hold at power-on, for every configuration and every launch value. -/
def Obligations.PowerOnMeetsInvariant : Prop :=
  ∀ (cfg : Config) (btn : BitVec 3) (txf : Bool), (State.powerOn cfg btn txf).Inv

/-- R226: `settle` ends after at most two operations and leaves no urgent operation enabled. -/
def Obligations.SettleTerminates : Prop :=
  ∀ s : State, s.settle.urgentOperation = none ∧ ∀ fuel, 2 ≤ fuel → s.settleFor fuel = s.settle

/-- R9, R94 (and log entry 3): no step stops the machine; every word, legal or not, leaves a next state. -/
def Obligations.EveryStepLeavesNextState : Prop :=
  ∀ s : State, ∃ t, step s = .next t

/-! ## Waveform Table and Silence Buffer -/

/-- R121, R127 (and log entry 11): the integer form of the generator computes the printed formula, evaluated
exactly over the rationals and rounded down once. -/
def Obligations.SampleEqualsExactFormula : Prop :=
  ∀ (L A : Nat) (P : Int) (N x : Nat), 2 ≤ L → L % 2 = 0 → 1 ≤ A → A ≤ 65535 → 1 ≤ N →
    sample L A P N x = sampleExact L A P N x

/-- R125(a): every sample lies between `floor(-A/2)` and `floor(A/2)`, and its 16-bit word in the table holds it
exactly. -/
def Obligations.SamplesAreBounded : Prop :=
  ∀ (cfg : Config) (x : Nat), cfg.wellFormed = true →
    (-(cfg.waveA : Int)) / 2 ≤ sample 32 cfg.waveA cfg.waveP cfg.waveN x ∧
    sample 32 cfg.waveA cfg.waveP cfg.waveN x ≤ (cfg.waveA : Int) / 2 ∧
    (sampleRead cfg .wave (2 * x)).toInt = sample 32 cfg.waveA cfg.waveP cfg.waveN x

/-- R125(c): the table is periodic with the configured period count, whenever the period is a whole number of
frames. -/
def Obligations.SamplesArePeriodic : Prop :=
  ∀ (A : Nat) (P : Int) (N x : Nat), 1 ≤ N → 16 % N = 0 →
    sample 32 A P N (x + 16 / N) = sample 32 A P N x

/-- R63, R123, R124: both channels of a frame hold the frame's sample, the Silence Buffer holds zeros, and the
sample addresses 0 to 31 and 32 to 63 are the two buffers. -/
def Obligations.BuffersAreLaidOutAsStated : Prop :=
  ∀ (cfg : Config),
    (∀ x < 16, sampleRead cfg .wave (2 * x) = BitVec.ofInt 16 (sample 32 cfg.waveA cfg.waveP cfg.waveN x) ∧
      sampleRead cfg .wave (2 * x + 1) = sampleRead cfg .wave (2 * x)) ∧
    (∀ idx < 32, sampleRead cfg .sil idx = 0#16) ∧
    (∀ idx < 32, sampleAt cfg (BitVec.ofNat 6 idx) = sampleRead cfg .sil idx ∧
      sampleAt cfg (BitVec.ofNat 6 (32 + idx)) = sampleRead cfg .wave idx)
end

