-- ==== Sys2Proof/Laws/State.lean ====
section
/-! SUPPORT. What each register update of Machine/Ops.lean, Machine/TimeHost.lean and Machine/Events.lean does to
each field of the state: one lemma per field per update, all by `rfl`. -/

namespace Sys2Proof.Machine

variable (s : State)

/-! ### `State.writeCell` -/
@[simp] theorem State.writeCell_cycle (i : Nat) (v : SymbolState) : (s.writeCell i v).cycle = s.cycle := rfl
@[simp] theorem State.writeCell_speed (i : Nat) (v : SymbolState) : (s.writeCell i v).speed = s.speed := rfl
@[simp] theorem State.writeCell_tickDl (i : Nat) (v : SymbolState) : (s.writeCell i v).tickDl = s.tickDl := rfl
@[simp] theorem State.writeCell_rechkDl (i : Nat) (v : SymbolState) : (s.writeCell i v).rechkDl = s.rechkDl := rfl
@[simp] theorem State.writeCell_pstate (i : Nat) (v : SymbolState) : (s.writeCell i v).pstate = s.pstate := rfl
@[simp] theorem State.writeCell_ledN (i : Nat) (v : SymbolState) : (s.writeCell i v).ledN = s.ledN := rfl
@[simp] theorem State.writeCell_dbst (i : Nat) (v : SymbolState) : (s.writeCell i v).dbst = s.dbst := rfl
@[simp] theorem State.writeCell_xvalid (i : Nat) (v : SymbolState) : (s.writeCell i v).xvalid = s.xvalid := rfl
@[simp] theorem State.writeCell_xbuf (i : Nat) (v : SymbolState) : (s.writeCell i v).xbuf = s.xbuf := rfl
@[simp] theorem State.writeCell_xdn (i : Nat) (v : SymbolState) : (s.writeCell i v).xdn = s.xdn := rfl
@[simp] theorem State.writeCell_fault (i : Nat) (v : SymbolState) : (s.writeCell i v).fault = s.fault := rfl
@[simp] theorem State.writeCell_fcause (i : Nat) (v : SymbolState) : (s.writeCell i v).fcause = s.fcause := rfl
@[simp] theorem State.writeCell_qmem (i : Nat) (v : SymbolState) : (s.writeCell i v).qmem = s.qmem.write i v := rfl
@[simp] theorem State.writeCell_qhead (i : Nat) (v : SymbolState) : (s.writeCell i v).qhead = s.qhead := rfl
@[simp] theorem State.writeCell_qtail (i : Nat) (v : SymbolState) : (s.writeCell i v).qtail = s.qtail := rfl
@[simp] theorem State.writeCell_btn (i : Nat) (v : SymbolState) : (s.writeCell i v).btn = s.btn := rfl
@[simp] theorem State.writeCell_txf (i : Nat) (v : SymbolState) : (s.writeCell i v).txf = s.txf := rfl
@[simp] theorem State.writeCell_txlog (i : Nat) (v : SymbolState) : (s.writeCell i v).txlog = s.txlog := rfl
@[simp] theorem State.writeCell_cfg (i : Nat) (v : SymbolState) : (s.writeCell i v).cfg = s.cfg := rfl
@[simp] theorem State.writeCell_resets (i : Nat) (v : SymbolState) : (s.writeCell i v).resets = s.resets := rfl
@[simp] theorem State.writeCell_events (i : Nat) (v : SymbolState) : (s.writeCell i v).events = s.events := rfl
@[simp] theorem State.writeCell_result (i : Nat) (v : SymbolState) : (s.writeCell i v).result = s.result := rfl

/-! ### `State.push` -/
@[simp] theorem State.push_cycle (v : SymbolState) : (s.push v).cycle = s.cycle := rfl
@[simp] theorem State.push_speed (v : SymbolState) : (s.push v).speed = s.speed := rfl
@[simp] theorem State.push_tickDl (v : SymbolState) : (s.push v).tickDl = s.tickDl := rfl
@[simp] theorem State.push_rechkDl (v : SymbolState) : (s.push v).rechkDl = s.rechkDl := rfl
@[simp] theorem State.push_pstate (v : SymbolState) : (s.push v).pstate = s.pstate := rfl
@[simp] theorem State.push_ledN (v : SymbolState) : (s.push v).ledN = s.ledN := rfl
@[simp] theorem State.push_dbst (v : SymbolState) : (s.push v).dbst = s.dbst := rfl
@[simp] theorem State.push_xvalid (v : SymbolState) : (s.push v).xvalid = s.xvalid := rfl
@[simp] theorem State.push_xbuf (v : SymbolState) : (s.push v).xbuf = s.xbuf := rfl
@[simp] theorem State.push_xdn (v : SymbolState) : (s.push v).xdn = s.xdn := rfl
@[simp] theorem State.push_fault (v : SymbolState) : (s.push v).fault = s.fault := rfl
@[simp] theorem State.push_fcause (v : SymbolState) : (s.push v).fcause = s.fcause := rfl
@[simp] theorem State.push_qmem (v : SymbolState) : (s.push v).qmem = s.qmem.write (cellOf s.qtail) v := rfl
@[simp] theorem State.push_qhead (v : SymbolState) : (s.push v).qhead = s.qhead := rfl
@[simp] theorem State.push_qtail (v : SymbolState) : (s.push v).qtail = s.qtail + 1#9 := rfl
@[simp] theorem State.push_btn (v : SymbolState) : (s.push v).btn = s.btn := rfl
@[simp] theorem State.push_txf (v : SymbolState) : (s.push v).txf = s.txf := rfl
@[simp] theorem State.push_txlog (v : SymbolState) : (s.push v).txlog = s.txlog := rfl
@[simp] theorem State.push_cfg (v : SymbolState) : (s.push v).cfg = s.cfg := rfl
@[simp] theorem State.push_resets (v : SymbolState) : (s.push v).resets = s.resets := rfl
@[simp] theorem State.push_events (v : SymbolState) : (s.push v).events = s.events := rfl
@[simp] theorem State.push_result (v : SymbolState) : (s.push v).result = s.result := rfl

/-! ### `State.release` -/
@[simp] theorem State.release_cycle : s.release.cycle = s.cycle := rfl
@[simp] theorem State.release_speed : s.release.speed = s.speed := rfl
@[simp] theorem State.release_tickDl : s.release.tickDl = s.tickDl := rfl
@[simp] theorem State.release_rechkDl : s.release.rechkDl = s.rechkDl := rfl
@[simp] theorem State.release_pstate : s.release.pstate = s.pstate := rfl
@[simp] theorem State.release_ledN : s.release.ledN = s.ledN := rfl
@[simp] theorem State.release_dbst : s.release.dbst = s.dbst := rfl
@[simp] theorem State.release_xvalid : s.release.xvalid = s.xvalid := rfl
@[simp] theorem State.release_xbuf : s.release.xbuf = s.xbuf := rfl
@[simp] theorem State.release_xdn : s.release.xdn = s.xdn := rfl
@[simp] theorem State.release_fault : s.release.fault = s.fault := rfl
@[simp] theorem State.release_fcause : s.release.fcause = s.fcause := rfl
@[simp] theorem State.release_qmem : s.release.qmem = s.qmem := rfl
@[simp] theorem State.release_qhead : s.release.qhead = s.qhead + 1#9 := rfl
@[simp] theorem State.release_qtail : s.release.qtail = s.qtail := rfl
@[simp] theorem State.release_btn : s.release.btn = s.btn := rfl
@[simp] theorem State.release_txf : s.release.txf = s.txf := rfl
@[simp] theorem State.release_txlog : s.release.txlog = s.txlog := rfl
@[simp] theorem State.release_cfg : s.release.cfg = s.cfg := rfl
@[simp] theorem State.release_resets : s.release.resets = s.resets := rfl
@[simp] theorem State.release_events : s.release.events = s.events := rfl
@[simp] theorem State.release_result : s.release.result = s.result := rfl

/-! ### `State.consumeHandle` -/
@[simp] theorem State.consumeHandle_cycle : s.consumeHandle.cycle = s.cycle := rfl
@[simp] theorem State.consumeHandle_speed : s.consumeHandle.speed = s.speed := rfl
@[simp] theorem State.consumeHandle_tickDl : s.consumeHandle.tickDl = s.tickDl := rfl
@[simp] theorem State.consumeHandle_rechkDl : s.consumeHandle.rechkDl = s.rechkDl := rfl
@[simp] theorem State.consumeHandle_pstate : s.consumeHandle.pstate = s.pstate := rfl
@[simp] theorem State.consumeHandle_ledN : s.consumeHandle.ledN = s.ledN := rfl
@[simp] theorem State.consumeHandle_dbst : s.consumeHandle.dbst = s.dbst := rfl
@[simp] theorem State.consumeHandle_xvalid : s.consumeHandle.xvalid = false := rfl
@[simp] theorem State.consumeHandle_xbuf : s.consumeHandle.xbuf = s.xbuf := rfl
@[simp] theorem State.consumeHandle_xdn : s.consumeHandle.xdn = s.xdn := rfl
@[simp] theorem State.consumeHandle_fault : s.consumeHandle.fault = s.fault := rfl
@[simp] theorem State.consumeHandle_fcause : s.consumeHandle.fcause = s.fcause := rfl
@[simp] theorem State.consumeHandle_qmem : s.consumeHandle.qmem = s.qmem := rfl
@[simp] theorem State.consumeHandle_qhead : s.consumeHandle.qhead = s.qhead := rfl
@[simp] theorem State.consumeHandle_qtail : s.consumeHandle.qtail = s.qtail := rfl
@[simp] theorem State.consumeHandle_btn : s.consumeHandle.btn = s.btn := rfl
@[simp] theorem State.consumeHandle_txf : s.consumeHandle.txf = s.txf := rfl
@[simp] theorem State.consumeHandle_txlog : s.consumeHandle.txlog = s.txlog := rfl
@[simp] theorem State.consumeHandle_cfg : s.consumeHandle.cfg = s.cfg := rfl
@[simp] theorem State.consumeHandle_resets : s.consumeHandle.resets = s.resets := rfl
@[simp] theorem State.consumeHandle_events : s.consumeHandle.events = s.events := rfl
@[simp] theorem State.consumeHandle_result : s.consumeHandle.result = s.result := rfl

/-! ### `State.submit` -/
@[simp] theorem State.submit_cycle (b : BufferId) : (s.submit b).cycle = s.cycle := rfl
@[simp] theorem State.submit_speed (b : BufferId) : (s.submit b).speed = s.speed := rfl
@[simp] theorem State.submit_tickDl (b : BufferId) : (s.submit b).tickDl = s.tickDl := rfl
@[simp] theorem State.submit_rechkDl (b : BufferId) : (s.submit b).rechkDl = s.rechkDl := rfl
@[simp] theorem State.submit_pstate (b : BufferId) : (s.submit b).pstate = s.pstate := rfl
@[simp] theorem State.submit_ledN (b : BufferId) : (s.submit b).ledN = s.ledN := rfl
@[simp] theorem State.submit_dbst (b : BufferId) : (s.submit b).dbst = s.dbst := rfl
@[simp] theorem State.submit_xvalid (b : BufferId) : (s.submit b).xvalid = true := rfl
@[simp] theorem State.submit_xbuf (b : BufferId) : (s.submit b).xbuf = b := rfl
@[simp] theorem State.submit_xdn (b : BufferId) : (s.submit b).xdn = false := rfl
@[simp] theorem State.submit_fault (b : BufferId) : (s.submit b).fault = s.fault := rfl
@[simp] theorem State.submit_fcause (b : BufferId) : (s.submit b).fcause = s.fcause := rfl
@[simp] theorem State.submit_qmem (b : BufferId) : (s.submit b).qmem = s.qmem := rfl
@[simp] theorem State.submit_qhead (b : BufferId) : (s.submit b).qhead = s.qhead := rfl
@[simp] theorem State.submit_qtail (b : BufferId) : (s.submit b).qtail = s.qtail := rfl
@[simp] theorem State.submit_btn (b : BufferId) : (s.submit b).btn = s.btn := rfl
@[simp] theorem State.submit_txf (b : BufferId) : (s.submit b).txf = s.txf := rfl
@[simp] theorem State.submit_txlog (b : BufferId) : (s.submit b).txlog = s.txlog ++ [b] := rfl
@[simp] theorem State.submit_cfg (b : BufferId) : (s.submit b).cfg = s.cfg := rfl
@[simp] theorem State.submit_resets (b : BufferId) : (s.submit b).resets = s.resets := rfl
@[simp] theorem State.submit_events (b : BufferId) : (s.submit b).events = s.events := rfl
@[simp] theorem State.submit_result (b : BufferId) : (s.submit b).result = s.result := rfl

/-! ### `State.showPlayback` -/
@[simp] theorem State.showPlayback_cycle (p : PlaybackState) : (s.showPlayback p).cycle = s.cycle := rfl
@[simp] theorem State.showPlayback_speed (p : PlaybackState) : (s.showPlayback p).speed = s.speed := rfl
@[simp] theorem State.showPlayback_tickDl (p : PlaybackState) : (s.showPlayback p).tickDl = s.tickDl := rfl
@[simp] theorem State.showPlayback_rechkDl (p : PlaybackState) : (s.showPlayback p).rechkDl = s.rechkDl := rfl
@[simp] theorem State.showPlayback_pstate (p : PlaybackState) : (s.showPlayback p).pstate = p := rfl
@[simp] theorem State.showPlayback_ledN (p : PlaybackState) : (s.showPlayback p).ledN = indicatorLevel p := rfl
@[simp] theorem State.showPlayback_dbst (p : PlaybackState) : (s.showPlayback p).dbst = s.dbst := rfl
@[simp] theorem State.showPlayback_xvalid (p : PlaybackState) : (s.showPlayback p).xvalid = s.xvalid := rfl
@[simp] theorem State.showPlayback_xbuf (p : PlaybackState) : (s.showPlayback p).xbuf = s.xbuf := rfl
@[simp] theorem State.showPlayback_xdn (p : PlaybackState) : (s.showPlayback p).xdn = s.xdn := rfl
@[simp] theorem State.showPlayback_fault (p : PlaybackState) : (s.showPlayback p).fault = s.fault := rfl
@[simp] theorem State.showPlayback_fcause (p : PlaybackState) : (s.showPlayback p).fcause = s.fcause := rfl
@[simp] theorem State.showPlayback_qmem (p : PlaybackState) : (s.showPlayback p).qmem = s.qmem := rfl
@[simp] theorem State.showPlayback_qhead (p : PlaybackState) : (s.showPlayback p).qhead = s.qhead := rfl
@[simp] theorem State.showPlayback_qtail (p : PlaybackState) : (s.showPlayback p).qtail = s.qtail := rfl
@[simp] theorem State.showPlayback_btn (p : PlaybackState) : (s.showPlayback p).btn = s.btn := rfl
@[simp] theorem State.showPlayback_txf (p : PlaybackState) : (s.showPlayback p).txf = s.txf := rfl
@[simp] theorem State.showPlayback_txlog (p : PlaybackState) : (s.showPlayback p).txlog = s.txlog := rfl
@[simp] theorem State.showPlayback_cfg (p : PlaybackState) : (s.showPlayback p).cfg = s.cfg := rfl
@[simp] theorem State.showPlayback_resets (p : PlaybackState) : (s.showPlayback p).resets = s.resets := rfl
@[simp] theorem State.showPlayback_events (p : PlaybackState) : (s.showPlayback p).events = s.events := rfl
@[simp] theorem State.showPlayback_result (p : PlaybackState) : (s.showPlayback p).result = s.result := rfl

/-! ### `State.reschedule` -/
@[simp] theorem State.reschedule_cycle : s.reschedule.cycle = s.cycle := rfl
@[simp] theorem State.reschedule_speed : s.reschedule.speed = s.speed := rfl
@[simp] theorem State.reschedule_tickDl : s.reschedule.tickDl = s.tickDl + s.speed.setWidth 64 := rfl
@[simp] theorem State.reschedule_rechkDl : s.reschedule.rechkDl = s.rechkDl := rfl
@[simp] theorem State.reschedule_pstate : s.reschedule.pstate = s.pstate := rfl
@[simp] theorem State.reschedule_ledN : s.reschedule.ledN = s.ledN := rfl
@[simp] theorem State.reschedule_dbst : s.reschedule.dbst = s.dbst := rfl
@[simp] theorem State.reschedule_xvalid : s.reschedule.xvalid = s.xvalid := rfl
@[simp] theorem State.reschedule_xbuf : s.reschedule.xbuf = s.xbuf := rfl
@[simp] theorem State.reschedule_xdn : s.reschedule.xdn = s.xdn := rfl
@[simp] theorem State.reschedule_fault : s.reschedule.fault = s.fault := rfl
@[simp] theorem State.reschedule_fcause : s.reschedule.fcause = s.fcause := rfl
@[simp] theorem State.reschedule_qmem : s.reschedule.qmem = s.qmem := rfl
@[simp] theorem State.reschedule_qhead : s.reschedule.qhead = s.qhead := rfl
@[simp] theorem State.reschedule_qtail : s.reschedule.qtail = s.qtail := rfl
@[simp] theorem State.reschedule_btn : s.reschedule.btn = s.btn := rfl
@[simp] theorem State.reschedule_txf : s.reschedule.txf = s.txf := rfl
@[simp] theorem State.reschedule_txlog : s.reschedule.txlog = s.txlog := rfl
@[simp] theorem State.reschedule_cfg : s.reschedule.cfg = s.cfg := rfl
@[simp] theorem State.reschedule_resets : s.reschedule.resets = s.resets := rfl
@[simp] theorem State.reschedule_events : s.reschedule.events = s.events := rfl
@[simp] theorem State.reschedule_result : s.reschedule.result = s.result := rfl

/-! ### `State.confirmTransfer` -/
@[simp] theorem State.confirmTransfer_cycle : s.confirmTransfer.cycle = s.cycle := rfl
@[simp] theorem State.confirmTransfer_speed : s.confirmTransfer.speed = s.speed := rfl
@[simp] theorem State.confirmTransfer_tickDl : s.confirmTransfer.tickDl = s.tickDl := rfl
@[simp] theorem State.confirmTransfer_rechkDl : s.confirmTransfer.rechkDl = s.rechkDl := rfl
@[simp] theorem State.confirmTransfer_pstate : s.confirmTransfer.pstate = s.pstate := rfl
@[simp] theorem State.confirmTransfer_ledN : s.confirmTransfer.ledN = s.ledN := rfl
@[simp] theorem State.confirmTransfer_dbst : s.confirmTransfer.dbst = s.dbst := rfl
@[simp] theorem State.confirmTransfer_xvalid : s.confirmTransfer.xvalid = s.xvalid := rfl
@[simp] theorem State.confirmTransfer_xbuf : s.confirmTransfer.xbuf = s.xbuf := rfl
@[simp] theorem State.confirmTransfer_xdn : s.confirmTransfer.xdn = true := rfl
@[simp] theorem State.confirmTransfer_fault : s.confirmTransfer.fault = s.fault := rfl
@[simp] theorem State.confirmTransfer_fcause : s.confirmTransfer.fcause = s.fcause := rfl
@[simp] theorem State.confirmTransfer_qmem : s.confirmTransfer.qmem = s.qmem := rfl
@[simp] theorem State.confirmTransfer_qhead : s.confirmTransfer.qhead = s.qhead := rfl
@[simp] theorem State.confirmTransfer_qtail : s.confirmTransfer.qtail = s.qtail := rfl
@[simp] theorem State.confirmTransfer_btn : s.confirmTransfer.btn = s.btn := rfl
@[simp] theorem State.confirmTransfer_txf : s.confirmTransfer.txf = s.txf := rfl
@[simp] theorem State.confirmTransfer_txlog : s.confirmTransfer.txlog = s.txlog := rfl
@[simp] theorem State.confirmTransfer_cfg : s.confirmTransfer.cfg = s.cfg := rfl
@[simp] theorem State.confirmTransfer_resets : s.confirmTransfer.resets = s.resets := rfl
@[simp] theorem State.confirmTransfer_events : s.confirmTransfer.events = s.events := rfl
@[simp] theorem State.confirmTransfer_result : s.confirmTransfer.result = s.result := rfl

/-! ### `State.armRecheck` -/
@[simp] theorem State.armRecheck_cycle : s.armRecheck.cycle = s.cycle := rfl
@[simp] theorem State.armRecheck_speed : s.armRecheck.speed = s.speed := rfl
@[simp] theorem State.armRecheck_tickDl : s.armRecheck.tickDl = s.tickDl := rfl
@[simp] theorem State.armRecheck_rechkDl : s.armRecheck.rechkDl = s.cycle + Config.settle := rfl
@[simp] theorem State.armRecheck_pstate : s.armRecheck.pstate = s.pstate := rfl
@[simp] theorem State.armRecheck_ledN : s.armRecheck.ledN = s.ledN := rfl
@[simp] theorem State.armRecheck_dbst : s.armRecheck.dbst = .pending := rfl
@[simp] theorem State.armRecheck_xvalid : s.armRecheck.xvalid = s.xvalid := rfl
@[simp] theorem State.armRecheck_xbuf : s.armRecheck.xbuf = s.xbuf := rfl
@[simp] theorem State.armRecheck_xdn : s.armRecheck.xdn = s.xdn := rfl
@[simp] theorem State.armRecheck_fault : s.armRecheck.fault = s.fault := rfl
@[simp] theorem State.armRecheck_fcause : s.armRecheck.fcause = s.fcause := rfl
@[simp] theorem State.armRecheck_qmem : s.armRecheck.qmem = s.qmem := rfl
@[simp] theorem State.armRecheck_qhead : s.armRecheck.qhead = s.qhead := rfl
@[simp] theorem State.armRecheck_qtail : s.armRecheck.qtail = s.qtail := rfl
@[simp] theorem State.armRecheck_btn : s.armRecheck.btn = s.btn := rfl
@[simp] theorem State.armRecheck_txf : s.armRecheck.txf = s.txf := rfl
@[simp] theorem State.armRecheck_txlog : s.armRecheck.txlog = s.txlog := rfl
@[simp] theorem State.armRecheck_cfg : s.armRecheck.cfg = s.cfg := rfl
@[simp] theorem State.armRecheck_resets : s.armRecheck.resets = s.resets := rfl
@[simp] theorem State.armRecheck_events : s.armRecheck.events = s.events := rfl
@[simp] theorem State.armRecheck_result : s.armRecheck.result = s.result := rfl

/-! ### `State.finishRecheck` -/
@[simp] theorem State.finishRecheck_cycle (v : SpeedWord) : (s.finishRecheck v).cycle = s.cycle := rfl
@[simp] theorem State.finishRecheck_speed (v : SpeedWord) : (s.finishRecheck v).speed = v := rfl
@[simp] theorem State.finishRecheck_tickDl (v : SpeedWord) : (s.finishRecheck v).tickDl = s.tickDl := rfl
@[simp] theorem State.finishRecheck_rechkDl (v : SpeedWord) : (s.finishRecheck v).rechkDl = s.rechkDl := rfl
@[simp] theorem State.finishRecheck_pstate (v : SpeedWord) : (s.finishRecheck v).pstate = s.pstate := rfl
@[simp] theorem State.finishRecheck_ledN (v : SpeedWord) : (s.finishRecheck v).ledN = s.ledN := rfl
@[simp] theorem State.finishRecheck_dbst (v : SpeedWord) : (s.finishRecheck v).dbst = .armed := rfl
@[simp] theorem State.finishRecheck_xvalid (v : SpeedWord) : (s.finishRecheck v).xvalid = s.xvalid := rfl
@[simp] theorem State.finishRecheck_xbuf (v : SpeedWord) : (s.finishRecheck v).xbuf = s.xbuf := rfl
@[simp] theorem State.finishRecheck_xdn (v : SpeedWord) : (s.finishRecheck v).xdn = s.xdn := rfl
@[simp] theorem State.finishRecheck_fault (v : SpeedWord) : (s.finishRecheck v).fault = s.fault := rfl
@[simp] theorem State.finishRecheck_fcause (v : SpeedWord) : (s.finishRecheck v).fcause = s.fcause := rfl
@[simp] theorem State.finishRecheck_qmem (v : SpeedWord) : (s.finishRecheck v).qmem = s.qmem := rfl
@[simp] theorem State.finishRecheck_qhead (v : SpeedWord) : (s.finishRecheck v).qhead = s.qhead := rfl
@[simp] theorem State.finishRecheck_qtail (v : SpeedWord) : (s.finishRecheck v).qtail = s.qtail := rfl
@[simp] theorem State.finishRecheck_btn (v : SpeedWord) : (s.finishRecheck v).btn = s.btn := rfl
@[simp] theorem State.finishRecheck_txf (v : SpeedWord) : (s.finishRecheck v).txf = s.txf := rfl
@[simp] theorem State.finishRecheck_txlog (v : SpeedWord) : (s.finishRecheck v).txlog = s.txlog := rfl
@[simp] theorem State.finishRecheck_cfg (v : SpeedWord) : (s.finishRecheck v).cfg = s.cfg := rfl
@[simp] theorem State.finishRecheck_resets (v : SpeedWord) : (s.finishRecheck v).resets = s.resets := rfl
@[simp] theorem State.finishRecheck_events (v : SpeedWord) : (s.finishRecheck v).events = s.events := rfl
@[simp] theorem State.finishRecheck_result (v : SpeedWord) : (s.finishRecheck v).result = s.result := rfl

/-! ### `State.setLevels` -/
@[simp] theorem State.setLevels_cycle (m : BitVec 3) : (s.setLevels m).cycle = s.cycle := rfl
@[simp] theorem State.setLevels_speed (m : BitVec 3) : (s.setLevels m).speed = s.speed := rfl
@[simp] theorem State.setLevels_tickDl (m : BitVec 3) : (s.setLevels m).tickDl = s.tickDl := rfl
@[simp] theorem State.setLevels_rechkDl (m : BitVec 3) : (s.setLevels m).rechkDl = s.rechkDl := rfl
@[simp] theorem State.setLevels_pstate (m : BitVec 3) : (s.setLevels m).pstate = s.pstate := rfl
@[simp] theorem State.setLevels_ledN (m : BitVec 3) : (s.setLevels m).ledN = s.ledN := rfl
@[simp] theorem State.setLevels_dbst (m : BitVec 3) : (s.setLevels m).dbst = s.dbst := rfl
@[simp] theorem State.setLevels_xvalid (m : BitVec 3) : (s.setLevels m).xvalid = s.xvalid := rfl
@[simp] theorem State.setLevels_xbuf (m : BitVec 3) : (s.setLevels m).xbuf = s.xbuf := rfl
@[simp] theorem State.setLevels_xdn (m : BitVec 3) : (s.setLevels m).xdn = s.xdn := rfl
@[simp] theorem State.setLevels_fault (m : BitVec 3) : (s.setLevels m).fault = s.fault := rfl
@[simp] theorem State.setLevels_fcause (m : BitVec 3) : (s.setLevels m).fcause = s.fcause := rfl
@[simp] theorem State.setLevels_qmem (m : BitVec 3) : (s.setLevels m).qmem = s.qmem := rfl
@[simp] theorem State.setLevels_qhead (m : BitVec 3) : (s.setLevels m).qhead = s.qhead := rfl
@[simp] theorem State.setLevels_qtail (m : BitVec 3) : (s.setLevels m).qtail = s.qtail := rfl
@[simp] theorem State.setLevels_btn (m : BitVec 3) : (s.setLevels m).btn = buttonLevels s.cfg m := rfl
@[simp] theorem State.setLevels_txf (m : BitVec 3) : (s.setLevels m).txf = s.txf := rfl
@[simp] theorem State.setLevels_txlog (m : BitVec 3) : (s.setLevels m).txlog = s.txlog := rfl
@[simp] theorem State.setLevels_cfg (m : BitVec 3) : (s.setLevels m).cfg = s.cfg := rfl
@[simp] theorem State.setLevels_resets (m : BitVec 3) : (s.setLevels m).resets = s.resets := rfl
@[simp] theorem State.setLevels_events (m : BitVec 3) : (s.setLevels m).events = s.events := rfl
@[simp] theorem State.setLevels_result (m : BitVec 3) : (s.setLevels m).result = s.result := rfl

/-! ### `State.setTxCondition` -/
@[simp] theorem State.setTxCondition_cycle (f : Bool) : (s.setTxCondition f).cycle = s.cycle := rfl
@[simp] theorem State.setTxCondition_speed (f : Bool) : (s.setTxCondition f).speed = s.speed := rfl
@[simp] theorem State.setTxCondition_tickDl (f : Bool) : (s.setTxCondition f).tickDl = s.tickDl := rfl
@[simp] theorem State.setTxCondition_rechkDl (f : Bool) : (s.setTxCondition f).rechkDl = s.rechkDl := rfl
@[simp] theorem State.setTxCondition_pstate (f : Bool) : (s.setTxCondition f).pstate = s.pstate := rfl
@[simp] theorem State.setTxCondition_ledN (f : Bool) : (s.setTxCondition f).ledN = s.ledN := rfl
@[simp] theorem State.setTxCondition_dbst (f : Bool) : (s.setTxCondition f).dbst = s.dbst := rfl
@[simp] theorem State.setTxCondition_xvalid (f : Bool) : (s.setTxCondition f).xvalid = s.xvalid := rfl
@[simp] theorem State.setTxCondition_xbuf (f : Bool) : (s.setTxCondition f).xbuf = s.xbuf := rfl
@[simp] theorem State.setTxCondition_xdn (f : Bool) : (s.setTxCondition f).xdn = s.xdn := rfl
@[simp] theorem State.setTxCondition_fault (f : Bool) : (s.setTxCondition f).fault = s.fault := rfl
@[simp] theorem State.setTxCondition_fcause (f : Bool) : (s.setTxCondition f).fcause = s.fcause := rfl
@[simp] theorem State.setTxCondition_qmem (f : Bool) : (s.setTxCondition f).qmem = s.qmem := rfl
@[simp] theorem State.setTxCondition_qhead (f : Bool) : (s.setTxCondition f).qhead = s.qhead := rfl
@[simp] theorem State.setTxCondition_qtail (f : Bool) : (s.setTxCondition f).qtail = s.qtail := rfl
@[simp] theorem State.setTxCondition_btn (f : Bool) : (s.setTxCondition f).btn = s.btn := rfl
@[simp] theorem State.setTxCondition_txf (f : Bool) : (s.setTxCondition f).txf = f := rfl
@[simp] theorem State.setTxCondition_txlog (f : Bool) : (s.setTxCondition f).txlog = s.txlog := rfl
@[simp] theorem State.setTxCondition_cfg (f : Bool) : (s.setTxCondition f).cfg = s.cfg := rfl
@[simp] theorem State.setTxCondition_resets (f : Bool) : (s.setTxCondition f).resets = s.resets := rfl
@[simp] theorem State.setTxCondition_events (f : Bool) : (s.setTxCondition f).events = s.events := rfl
@[simp] theorem State.setTxCondition_result (f : Bool) : (s.setTxCondition f).result = s.result := rfl

/-! ### `State.elapse` -/
@[simp] theorem State.elapse_cycle (n : BitVec 28) : (s.elapse n).cycle = s.cycle + n.setWidth 64 := rfl
@[simp] theorem State.elapse_speed (n : BitVec 28) : (s.elapse n).speed = s.speed := rfl
@[simp] theorem State.elapse_tickDl (n : BitVec 28) : (s.elapse n).tickDl = s.tickDl := rfl
@[simp] theorem State.elapse_rechkDl (n : BitVec 28) : (s.elapse n).rechkDl = s.rechkDl := rfl
@[simp] theorem State.elapse_pstate (n : BitVec 28) : (s.elapse n).pstate = s.pstate := rfl
@[simp] theorem State.elapse_ledN (n : BitVec 28) : (s.elapse n).ledN = s.ledN := rfl
@[simp] theorem State.elapse_dbst (n : BitVec 28) : (s.elapse n).dbst = s.dbst := rfl
@[simp] theorem State.elapse_xvalid (n : BitVec 28) : (s.elapse n).xvalid = s.xvalid := rfl
@[simp] theorem State.elapse_xbuf (n : BitVec 28) : (s.elapse n).xbuf = s.xbuf := rfl
@[simp] theorem State.elapse_xdn (n : BitVec 28) : (s.elapse n).xdn = s.xdn := rfl
@[simp] theorem State.elapse_fault (n : BitVec 28) : (s.elapse n).fault = s.fault := rfl
@[simp] theorem State.elapse_fcause (n : BitVec 28) : (s.elapse n).fcause = s.fcause := rfl
@[simp] theorem State.elapse_qmem (n : BitVec 28) : (s.elapse n).qmem = s.qmem := rfl
@[simp] theorem State.elapse_qhead (n : BitVec 28) : (s.elapse n).qhead = s.qhead := rfl
@[simp] theorem State.elapse_qtail (n : BitVec 28) : (s.elapse n).qtail = s.qtail := rfl
@[simp] theorem State.elapse_btn (n : BitVec 28) : (s.elapse n).btn = s.btn := rfl
@[simp] theorem State.elapse_txf (n : BitVec 28) : (s.elapse n).txf = s.txf := rfl
@[simp] theorem State.elapse_txlog (n : BitVec 28) : (s.elapse n).txlog = s.txlog := rfl
@[simp] theorem State.elapse_cfg (n : BitVec 28) : (s.elapse n).cfg = s.cfg := rfl
@[simp] theorem State.elapse_resets (n : BitVec 28) : (s.elapse n).resets = s.resets := rfl
@[simp] theorem State.elapse_events (n : BitVec 28) : (s.elapse n).events = s.events := rfl
@[simp] theorem State.elapse_result (n : BitVec 28) : (s.elapse n).result = s.result := rfl

/-! ### `State.answer` -/
@[simp] theorem State.answer_cycle (o : EventOutcome) : (s.answer o).cycle = s.cycle := rfl
@[simp] theorem State.answer_speed (o : EventOutcome) : (s.answer o).speed = s.speed := rfl
@[simp] theorem State.answer_tickDl (o : EventOutcome) : (s.answer o).tickDl = s.tickDl := rfl
@[simp] theorem State.answer_rechkDl (o : EventOutcome) : (s.answer o).rechkDl = s.rechkDl := rfl
@[simp] theorem State.answer_pstate (o : EventOutcome) : (s.answer o).pstate = s.pstate := rfl
@[simp] theorem State.answer_ledN (o : EventOutcome) : (s.answer o).ledN = s.ledN := rfl
@[simp] theorem State.answer_dbst (o : EventOutcome) : (s.answer o).dbst = s.dbst := rfl
@[simp] theorem State.answer_xvalid (o : EventOutcome) : (s.answer o).xvalid = s.xvalid := rfl
@[simp] theorem State.answer_xbuf (o : EventOutcome) : (s.answer o).xbuf = s.xbuf := rfl
@[simp] theorem State.answer_xdn (o : EventOutcome) : (s.answer o).xdn = s.xdn := rfl
@[simp] theorem State.answer_fault (o : EventOutcome) : (s.answer o).fault = s.fault := rfl
@[simp] theorem State.answer_fcause (o : EventOutcome) : (s.answer o).fcause = s.fcause := rfl
@[simp] theorem State.answer_qmem (o : EventOutcome) : (s.answer o).qmem = s.qmem := rfl
@[simp] theorem State.answer_qhead (o : EventOutcome) : (s.answer o).qhead = s.qhead := rfl
@[simp] theorem State.answer_qtail (o : EventOutcome) : (s.answer o).qtail = s.qtail := rfl
@[simp] theorem State.answer_btn (o : EventOutcome) : (s.answer o).btn = s.btn := rfl
@[simp] theorem State.answer_txf (o : EventOutcome) : (s.answer o).txf = s.txf := rfl
@[simp] theorem State.answer_txlog (o : EventOutcome) : (s.answer o).txlog = s.txlog := rfl
@[simp] theorem State.answer_cfg (o : EventOutcome) : (s.answer o).cfg = s.cfg := rfl
@[simp] theorem State.answer_resets (o : EventOutcome) : (s.answer o).resets = s.resets := rfl
@[simp] theorem State.answer_events (o : EventOutcome) : (s.answer o).events = s.events := rfl
@[simp] theorem State.answer_result (o : EventOutcome) : (s.answer o).result = some o := rfl

/-! ### `State.raiseFault` -/
@[simp] theorem State.raiseFault_cycle (c : FaultCause) : (s.raiseFault c).cycle = s.cycle := rfl
@[simp] theorem State.raiseFault_speed (c : FaultCause) : (s.raiseFault c).speed = s.speed := rfl
@[simp] theorem State.raiseFault_tickDl (c : FaultCause) : (s.raiseFault c).tickDl = s.tickDl := rfl
@[simp] theorem State.raiseFault_rechkDl (c : FaultCause) : (s.raiseFault c).rechkDl = s.rechkDl := rfl
@[simp] theorem State.raiseFault_pstate (c : FaultCause) : (s.raiseFault c).pstate = s.pstate := rfl
@[simp] theorem State.raiseFault_ledN (c : FaultCause) : (s.raiseFault c).ledN = s.ledN := rfl
@[simp] theorem State.raiseFault_dbst (c : FaultCause) : (s.raiseFault c).dbst = s.dbst := rfl
@[simp] theorem State.raiseFault_xvalid (c : FaultCause) : (s.raiseFault c).xvalid = s.xvalid := rfl
@[simp] theorem State.raiseFault_xbuf (c : FaultCause) : (s.raiseFault c).xbuf = s.xbuf := rfl
@[simp] theorem State.raiseFault_xdn (c : FaultCause) : (s.raiseFault c).xdn = s.xdn := rfl
@[simp] theorem State.raiseFault_fault (c : FaultCause) : (s.raiseFault c).fault = true := rfl
@[simp] theorem State.raiseFault_fcause (c : FaultCause) : (s.raiseFault c).fcause = causeCode c := rfl
@[simp] theorem State.raiseFault_qmem (c : FaultCause) : (s.raiseFault c).qmem = s.qmem := rfl
@[simp] theorem State.raiseFault_qhead (c : FaultCause) : (s.raiseFault c).qhead = s.qhead := rfl
@[simp] theorem State.raiseFault_qtail (c : FaultCause) : (s.raiseFault c).qtail = s.qtail := rfl
@[simp] theorem State.raiseFault_btn (c : FaultCause) : (s.raiseFault c).btn = s.btn := rfl
@[simp] theorem State.raiseFault_txf (c : FaultCause) : (s.raiseFault c).txf = s.txf := rfl
@[simp] theorem State.raiseFault_txlog (c : FaultCause) : (s.raiseFault c).txlog = s.txlog := rfl
@[simp] theorem State.raiseFault_cfg (c : FaultCause) : (s.raiseFault c).cfg = s.cfg := rfl
@[simp] theorem State.raiseFault_resets (c : FaultCause) : (s.raiseFault c).resets = s.resets := rfl
@[simp] theorem State.raiseFault_events (c : FaultCause) : (s.raiseFault c).events = s.events := rfl
@[simp] theorem State.raiseFault_result (c : FaultCause) : (s.raiseFault c).result = some (.fault c) := rfl

/-! ### `State.clearFault` -/
@[simp] theorem State.clearFault_cycle : s.clearFault.cycle = s.cycle := rfl
@[simp] theorem State.clearFault_speed : s.clearFault.speed = s.speed := rfl
@[simp] theorem State.clearFault_tickDl : s.clearFault.tickDl = s.tickDl := rfl
@[simp] theorem State.clearFault_rechkDl : s.clearFault.rechkDl = s.rechkDl := rfl
@[simp] theorem State.clearFault_pstate : s.clearFault.pstate = s.pstate := rfl
@[simp] theorem State.clearFault_ledN : s.clearFault.ledN = s.ledN := rfl
@[simp] theorem State.clearFault_dbst : s.clearFault.dbst = s.dbst := rfl
@[simp] theorem State.clearFault_xvalid : s.clearFault.xvalid = s.xvalid := rfl
@[simp] theorem State.clearFault_xbuf : s.clearFault.xbuf = s.xbuf := rfl
@[simp] theorem State.clearFault_xdn : s.clearFault.xdn = s.xdn := rfl
@[simp] theorem State.clearFault_fault : s.clearFault.fault = false := rfl
@[simp] theorem State.clearFault_fcause : s.clearFault.fcause = 0#4 := rfl
@[simp] theorem State.clearFault_qmem : s.clearFault.qmem = s.qmem := rfl
@[simp] theorem State.clearFault_qhead : s.clearFault.qhead = s.qhead := rfl
@[simp] theorem State.clearFault_qtail : s.clearFault.qtail = s.qtail := rfl
@[simp] theorem State.clearFault_btn : s.clearFault.btn = s.btn := rfl
@[simp] theorem State.clearFault_txf : s.clearFault.txf = s.txf := rfl
@[simp] theorem State.clearFault_txlog : s.clearFault.txlog = s.txlog := rfl
@[simp] theorem State.clearFault_cfg : s.clearFault.cfg = s.cfg := rfl
@[simp] theorem State.clearFault_resets : s.clearFault.resets = s.resets := rfl
@[simp] theorem State.clearFault_events : s.clearFault.events = s.events := rfl
@[simp] theorem State.clearFault_result : s.clearFault.result = s.result := rfl

/-! ### `State.restart` -/
@[simp] theorem State.restart_cycle : s.restart.cycle = 0#64 := rfl
@[simp] theorem State.restart_speed : s.restart.speed = Config.speedReset := rfl
@[simp] theorem State.restart_tickDl : s.restart.tickDl = Config.speedReset.setWidth 64 := rfl
@[simp] theorem State.restart_rechkDl : s.restart.rechkDl = 0#64 := rfl
@[simp] theorem State.restart_pstate : s.restart.pstate = .silent := rfl
@[simp] theorem State.restart_ledN : s.restart.ledN = true := rfl
@[simp] theorem State.restart_dbst : s.restart.dbst = .armed := rfl
@[simp] theorem State.restart_xvalid : s.restart.xvalid = true := rfl
@[simp] theorem State.restart_xbuf : s.restart.xbuf = .sil := rfl
@[simp] theorem State.restart_xdn : s.restart.xdn = false := rfl
@[simp] theorem State.restart_fault : s.restart.fault = false := rfl
@[simp] theorem State.restart_fcause : s.restart.fcause = 0#4 := rfl
@[simp] theorem State.restart_qmem : s.restart.qmem = [] := rfl
@[simp] theorem State.restart_qhead : s.restart.qhead = 0#9 := rfl
@[simp] theorem State.restart_qtail : s.restart.qtail = 0#9 := rfl
@[simp] theorem State.restart_btn : s.restart.btn = s.btn := rfl
@[simp] theorem State.restart_txf : s.restart.txf = s.txf := rfl
@[simp] theorem State.restart_txlog : s.restart.txlog = [.sil] := rfl
@[simp] theorem State.restart_cfg : s.restart.cfg = s.cfg := rfl
@[simp] theorem State.restart_resets : s.restart.resets = s.resets + 1 := rfl
@[simp] theorem State.restart_events : s.restart.events = s.events := rfl
@[simp] theorem State.restart_result : s.restart.result = s.result := rfl

/-! ### `State.issue` -/
@[simp] theorem State.issue_cycle (w : EventWord) : (s.issue w).cycle = s.cycle := rfl
@[simp] theorem State.issue_speed (w : EventWord) : (s.issue w).speed = s.speed := rfl
@[simp] theorem State.issue_tickDl (w : EventWord) : (s.issue w).tickDl = s.tickDl := rfl
@[simp] theorem State.issue_rechkDl (w : EventWord) : (s.issue w).rechkDl = s.rechkDl := rfl
@[simp] theorem State.issue_pstate (w : EventWord) : (s.issue w).pstate = s.pstate := rfl
@[simp] theorem State.issue_ledN (w : EventWord) : (s.issue w).ledN = s.ledN := rfl
@[simp] theorem State.issue_dbst (w : EventWord) : (s.issue w).dbst = s.dbst := rfl
@[simp] theorem State.issue_xvalid (w : EventWord) : (s.issue w).xvalid = s.xvalid := rfl
@[simp] theorem State.issue_xbuf (w : EventWord) : (s.issue w).xbuf = s.xbuf := rfl
@[simp] theorem State.issue_xdn (w : EventWord) : (s.issue w).xdn = s.xdn := rfl
@[simp] theorem State.issue_fault (w : EventWord) : (s.issue w).fault = s.fault := rfl
@[simp] theorem State.issue_fcause (w : EventWord) : (s.issue w).fcause = s.fcause := rfl
@[simp] theorem State.issue_qmem (w : EventWord) : (s.issue w).qmem = s.qmem := rfl
@[simp] theorem State.issue_qhead (w : EventWord) : (s.issue w).qhead = s.qhead := rfl
@[simp] theorem State.issue_qtail (w : EventWord) : (s.issue w).qtail = s.qtail := rfl
@[simp] theorem State.issue_btn (w : EventWord) : (s.issue w).btn = s.btn := rfl
@[simp] theorem State.issue_txf (w : EventWord) : (s.issue w).txf = s.txf := rfl
@[simp] theorem State.issue_txlog (w : EventWord) : (s.issue w).txlog = s.txlog := rfl
@[simp] theorem State.issue_cfg (w : EventWord) : (s.issue w).cfg = s.cfg := rfl
@[simp] theorem State.issue_resets (w : EventWord) : (s.issue w).resets = s.resets := rfl
@[simp] theorem State.issue_events (w : EventWord) : (s.issue w).events = w :: s.events := rfl
@[simp] theorem State.issue_result (w : EventWord) : (s.issue w).result = s.result := rfl

end Sys2Proof.Machine
end

