-- ==== Sys2Proof/Laws/Memory.lean ====
section
/-! SUPPORT. The laws of the queue cell space: read after write, every other cell untouched, and the canonical form
kept by every write. -/

namespace Sys2Proof.Machine

theorem Memory.read?_write_same (m : Memory) (i : Nat) (v : SymbolState) : (m.write i v).read? i = some v := by
  induction m with
  | nil => simp [Memory.write, Memory.read?]
  | cons c m ih =>
    obtain ⟨j, u⟩ := c
    simp only [Memory.write]
    split
    · simp [Memory.read?]
    · split
      · simp [Memory.read?]
      · rename_i hne
        simp [Memory.read?, ih, Ne.symm hne]

theorem Memory.read?_write_other {i k : Nat} (h : k ≠ i) (m : Memory) (v : SymbolState) :
    (m.write i v).read? k = m.read? k := by
  induction m with
  | nil => simp [Memory.write, Memory.read?, Ne.symm h]
  | cons c m ih =>
    obtain ⟨j, u⟩ := c
    simp only [Memory.write]
    split
    · simp [Memory.read?, Ne.symm h]
    · split
      · rename_i heq
        subst heq
        simp [Memory.read?, Ne.symm h]
      · simp [Memory.read?, ih]

/-- The indices a write leaves listed: the one written and those listed before. -/
theorem Memory.mem_write {m : Memory} {i : Nat} {v : SymbolState} {c : Nat × SymbolState}
    (h : c ∈ m.write i v) : c.1 = i ∨ c ∈ m := by
  induction m with
  | nil => simp_all [Memory.write]
  | cons d m ih =>
    obtain ⟨j, u⟩ := d
    simp only [Memory.write] at h
    split at h
    · rcases List.mem_cons.1 h with rfl | h
      · exact .inl rfl
      · exact .inr h
    · split at h
      · rcases List.mem_cons.1 h with rfl | h
        · exact .inl rfl
        · exact .inr (List.mem_cons_of_mem _ h)
      · rcases List.mem_cons.1 h with rfl | h
        · exact .inr (List.mem_cons_self ..)
        · exact (ih h).imp_right (List.mem_cons_of_mem _)

theorem Memory.wf_nil : Memory.wf [] := by simp [Memory.wf]

theorem Memory.wf_write {m : Memory} (hm : m.wf) {i : Nat} (hi : i < Config.qcap) (v : SymbolState) :
    (m.write i v).wf := by
  refine ⟨?_, fun c hc => ?_⟩
  · obtain ⟨hp, -⟩ := hm
    induction m with
    | nil => simp [Memory.write]
    | cons c m ih =>
      obtain ⟨j, u⟩ := c
      simp only [List.map_cons, List.pairwise_cons] at hp
      simp only [Memory.write]
      split
      · rename_i hlt
        simp only [List.map_cons, List.pairwise_cons]
        refine ⟨fun k hk => ?_, hp⟩
        rcases List.mem_cons.1 hk with rfl | hk
        · exact hlt
        · exact hlt.trans (hp.1 k hk)
      · split
        · rename_i heq
          subst heq
          simpa using hp
        · rename_i hnlt hne
          simp only [List.map_cons, List.pairwise_cons]
          refine ⟨fun k hk => ?_, ih hp.2⟩
          obtain ⟨c, hc, rfl⟩ := List.mem_map.1 hk
          rcases Memory.mem_write hc with h | h
          · omega
          · exact hp.1 _ (List.mem_map_of_mem h)
  · rcases Memory.mem_write hc with h | h
    · exact h ▸ hi
    · exact hm.2 c h

theorem cellOf_lt (c : Cursor) : cellOf c < Config.qcap := Nat.mod_lt _ (by decide)

/-- Reading a cell after `MemWrite` to it. -/
@[simp] theorem State.readCell_writeCell_same (s : State) (i : Nat) (v : SymbolState) :
    (s.writeCell i v).readCell i = v := by
  simp [State.readCell, Memory.read?_write_same]

/-- Reading any other cell after `MemWrite`. -/
theorem State.readCell_writeCell_other (s : State) {i k : Nat} (h : k ≠ i) (v : SymbolState) :
    (s.writeCell i v).readCell k = s.readCell k := by
  simp [State.readCell, Memory.read?_write_other h]

/-- Two states that agree on the queue's memory and on the reset they follow read the same cells. -/
theorem State.readCell_congr {s t : State} (hm : t.qmem = s.qmem) (hr : t.resets = s.resets) (i : Nat) :
    t.readCell i = s.readCell i := by
  simp [State.readCell, hm, hr]

end Sys2Proof.Machine
end

