-- ==== Sys2Proof/Laws/Queue.lean ====
section
/-! SUPPORT. The laws of the queue's cursors and of its shared operations: accepted enqueues, and the dequeue. -/

namespace Sys2Proof.Machine

theorem State.queueEmpty_iff (s : State) : s.queueEmpty = true ↔ s.qcount.toNat = 0 := by
  simp [State.queueEmpty, ← BitVec.toNat_inj]

theorem State.queueFull_iff (s : State) : s.queueFull = true ↔ s.qcount.toNat = Config.qcap := by
  simp [State.queueFull, ← BitVec.toNat_inj, Config.qcap]

/-- Each accepted enqueue uses one slot. -/
theorem State.qcount_push (s : State) (v : SymbolState) (h : s.qcount.toNat < Config.qcap) :
    (s.push v).qcount.toNat = s.qcount.toNat + 1 := by
  simp only [State.qcount, State.push_qtail, State.push_qhead] at *
  simp only [Config.qcap] at h
  have : s.qtail + 1#9 - s.qhead = (s.qtail - s.qhead) + 1#9 := by
    rw [BitVec.sub_eq_add_neg, BitVec.sub_eq_add_neg]; ac_rfl
  rw [this, BitVec.toNat_add, BitVec.toNat_ofNat]
  omega

/-- Each dequeued entry frees one slot. -/
theorem State.qcount_release (s : State) (h : s.qcount.toNat ≠ 0) :
    s.release.qcount.toNat + 1 = s.qcount.toNat := by
  simp only [State.qcount, State.release_qtail, State.release_qhead] at *
  have : s.qtail - (s.qhead + 1#9) = (s.qtail - s.qhead) - 1#9 := by
    rw [BitVec.sub_eq_add_neg, BitVec.sub_eq_add_neg, BitVec.sub_eq_add_neg, BitVec.neg_add,
      BitVec.sub_eq_add_neg]; ac_rfl
  rw [this, BitVec.toNat_sub, BitVec.toNat_ofNat]
  have := (s.qtail - s.qhead).isLt
  omega

/-- Where the occupied range ends: the cell the next enqueue writes (R32). -/
theorem State.cellOf_qtail (s : State) : cellOf s.qtail = (s.qhead.toNat + s.qcount.toNat) % Config.qcap := by
  have h : s.qtail = s.qhead + s.qcount := by simp [State.qcount]
  have : s.qtail.toNat = (s.qhead.toNat + s.qcount.toNat) % 512 := by
    conv_lhs => rw [h]
    simp [BitVec.toNat_add]
  simp only [cellOf, Config.qcap, this]
  omega

/-- The free slots while the occupancy invariant holds. -/
theorem State.freeSlots_toNat (s : State) (h : s.qcount.toNat ≤ Config.qcap) :
    s.freeSlots.toNat = Config.qcap - s.qcount.toNat := by
  simp only [State.freeSlots, Config.qcap] at *
  rw [BitVec.toNat_sub]
  simp
  omega

/-- Everything `dequeue()` can do (R143). -/
theorem State.dequeue_cases (s : State) :
    (s.queueEmpty = true ∧ s.dequeue = (none, s)) ∨
    (s.queueEmpty = false ∧ s.dequeue = (some (s.readCell (cellOf s.qhead)), s.release)) := by
  cases h : s.queueEmpty
  · exact .inr ⟨rfl, by simp [State.dequeue, h]⟩
  · exact .inl ⟨rfl, by simp [State.dequeue, h]⟩

/-- Everything a run of accepted enqueues leaves alone. -/
theorem State.pushTimes_frame (n : Nat) (v : SymbolState) (s : State) :
    ∃ m : Memory, State.pushTimes n v s = { s with qmem := m, qtail := s.qtail + BitVec.ofNat 9 n } := by
  induction n generalizing s with
  | zero => exact ⟨s.qmem, by simp [State.pushTimes]⟩
  | succ n ih =>
    obtain ⟨m, hm⟩ := ih (s.push v)
    refine ⟨m, ?_⟩
    rw [State.pushTimes, hm]
    have : s.qtail + 1#9 + BitVec.ofNat 9 n = s.qtail + BitVec.ofNat 9 (n + 1) := by
      rw [BitVec.add_assoc]
      congr 1
      apply BitVec.eq_of_toNat_eq
      simp [Nat.add_comm]
    simp [State.push, State.writeCell, this]

/-- A run of accepted enqueues keeps the canonical form of the memory. -/
theorem State.pushTimes_wf (n : Nat) (v : SymbolState) (s : State) (h : s.qmem.wf) :
    (State.pushTimes n v s).qmem.wf := by
  induction n generalizing s with
  | zero => exact h
  | succ n ih => exact ih _ (Memory.wf_write h (cellOf_lt _) v)

end Sys2Proof.Machine
end

