-- ==== Sys2Proof/Laws/Time.lean ====
section
/-! SUPPORT. The laws of deadlines and of the enabling conditions. -/

namespace Sys2Proof.Machine

theorem due_iff (c d : CycleWord) : due c d = true ↔ (c - d).toNat < 2 ^ 63 := by simp [due]

/-- A deadline is due at the start of one of the next `n` cycles iff fewer than `n` cycles are left until it is
due (`n` up to 2^63, far beyond one `CLK` word). -/
theorem cyclesUntilDue_lt_iff (c d : CycleWord) (n : Nat) (hn : n ≤ 2 ^ 63) :
    cyclesUntilDue c d < n ↔ ∃ k < n, due (c + BitVec.ofNat 64 k) d = true := by
  have key : ∀ k, k < 2 ^ 64 →
      (c + BitVec.ofNat 64 k - d).toNat = ((c - d).toNat + k) % 2 ^ 64 := by
    intro k hk
    have : c + BitVec.ofNat 64 k - d = (c - d) + BitVec.ofNat 64 k := by
      rw [BitVec.sub_eq_add_neg, BitVec.sub_eq_add_neg]; ac_rfl
    rw [this, BitVec.toNat_add]
    simp
  have hneg : (d - c).toNat = (2 ^ 64 - (c - d).toNat) % 2 ^ 64 := by
    simp only [BitVec.toNat_sub]
    have := c.isLt
    have := d.isLt
    omega
  have hlt := (c - d).isLt
  simp only [cyclesUntilDue]
  constructor
  · intro h
    split at h
    · rename_i hd
      exact ⟨0, h, by simpa using hd⟩
    · rename_i hd
      rw [due_iff] at hd
      refine ⟨_, h, ?_⟩
      rw [due_iff, key _ (BitVec.isLt _), hneg]
      omega
  · rintro ⟨k, hk, hd⟩
    rw [due_iff, key k (by omega)] at hd
    split
    · omega
    · rename_i hnd
      rw [due_iff] at hnd
      omega

theorem State.recheckEnabled_iff (s : State) :
    s.recheckEnabled = true ↔ s.fault = false ∧ s.dbst = .pending ∧ due s.cycle s.rechkDl = true := by
  simp [State.recheckEnabled, and_assoc]

theorem State.tickEnabled_iff (s : State) :
    s.tickEnabled = true ↔ s.fault = false ∧ due s.cycle s.tickDl = true ∧ s.xvalid = true ∧ s.xdn = true ∧
      s.recheckEnabled = false := by
  simp [State.tickEnabled, and_assoc]

@[simp] theorem State.enables_tick (s : State) : s.enables .tick = s.tickEnabled := rfl
@[simp] theorem State.enables_recheck (s : State) : s.enables .recheck = s.recheckEnabled := rfl
@[simp] theorem State.enables_clk (s : State) (n : BitVec 28) : s.enables (.clk n) = s.clkEnabled n.toNat := rfl

theorem State.admits_iff (s : State) (i : Instr) :
    s.admits i = true ↔ i.wellFormed s.cfg = true ∧ s.enables i = true := by simp [State.admits]

/-- What makes `CLK n` disabled, said once. -/
theorem State.clkEnabled_iff (s : State) (n : Nat) :
    s.clkEnabled n = true ↔
      (s.fault = false → s.dbst = .pending → n ≤ cyclesUntilDue s.cycle s.rechkDl) ∧
      (s.fault = false → s.xvalid = true → s.xdn = true → n ≤ cyclesUntilDue s.cycle s.tickDl) := by
  simp only [State.clkEnabled]
  cases s.fault <;> cases s.xvalid <;> cases s.xdn <;> cases s.dbst <;> simp

end Sys2Proof.Machine
end

