-- ==== Sys2Proof/Laws/Exec.lean ====
section
/-! SUPPORT. What `exec` and `step` answer, said once: every operation answers a next state, and each operation's
next state in the words of its rule. -/

namespace Sys2Proof.Machine

/-- Every operation answers the next state `State.after` names: no operation stops the machine. -/
theorem exec_eq_after (i : Instr) (s : State) : exec i s = .next (s.after i) := by cases i <;> rfl

theorem after_eq_of_exec {i : Instr} {s t : State} (h : exec i s = .next t) : s.after i = t := by
  rw [exec_eq_after] at h
  exact Host.Outcome.next.inj h

/-- The two cases of an operation that a fault halts (R244). -/
theorem unlessHalted_cases (s b : State) :
    (s.fault = true ∧ unlessHalted s b = s.answer .halted) ∨ (s.fault = false ∧ unlessHalted s b = b) := by
  cases h : s.fault <;> simp [unlessHalted, h]

theorem after_nop (s : State) : s.after .nop = s.answer (.ok .done) := rfl

/-- Everything `ENQ` can do. -/
theorem after_enq_cases (v : SymbolState) (s : State) :
    (s.fault = true ∧ s.after (.enq v) = s.answer .halted) ∨
    (s.fault = false ∧ s.queueFull = true ∧ s.after (.enq v) = s.answer (.ok .full)) ∨
    (s.fault = false ∧ s.queueFull = false ∧ s.after (.enq v) = (s.push v).answer (.ok .accepted)) := by
  cases hf : s.fault <;> cases hq : s.queueFull <;>
    simp [State.after, exec, execEnq, unlessHalted, hf, hq]

/-- Everything `ENQR` can do. -/
theorem after_enqr_cases (v : SymbolState) (d : BitVec 16) (s : State) :
    (s.fault = true ∧ s.after (.enqr v d) = s.answer .halted) ∨
    (s.fault = false ∧ s.after (.enqr v d) =
      (State.pushTimes (min d.toNat s.freeSlots.toNat) v s).answer
        (.ok (.counts (min d.toNat s.freeSlots.toNat) (d.toNat - min d.toNat s.freeSlots.toNat)))) := by
  cases hf : s.fault <;> simp [State.after, exec, execEnqr, unlessHalted, hf]

/-- Everything `TICK` can do, up to its body. -/
theorem after_tick_cases (s : State) :
    (s.fault = true ∧ s.after .tick = s.answer .halted) ∨
    (s.fault = false ∧ s.tickEnabled = false ∧ s.after .tick = s.answer .notEnabled) ∨
    (s.fault = false ∧ s.tickEnabled = true ∧ s.after .tick = s.fireTick) := by
  cases hf : s.fault <;> cases ht : s.tickEnabled <;>
    simp [State.after, exec, execTick, unlessHalted, hf, ht]

/-- Everything the body of a tick can do: refused or accepted submit, of an empty or a nonempty queue. -/
theorem fireTick_cases (s : State) :
    (s.txf = true ∧ s.queueEmpty = true ∧ s.fireTick = s.consumeHandle.raiseFault .txSubmitFail) ∨
    (s.txf = true ∧ s.queueEmpty = false ∧ s.fireTick = s.consumeHandle.release.raiseFault .txSubmitFail) ∨
    (s.txf = false ∧ s.queueEmpty = true ∧ s.fireTick =
      (((s.consumeHandle.submit .sil).showPlayback .silent).reschedule).answer (.ok (.played .silent))) ∨
    (s.txf = false ∧ s.queueEmpty = false ∧
      ∃ p, p = nextPlayback (some (s.readCell (cellOf s.qhead))) ∧ s.fireTick =
        (((s.consumeHandle.release.submit (muxBuffer p)).showPlayback p).reschedule).answer (.ok (.played p))) := by
  have he : s.consumeHandle.queueEmpty = s.queueEmpty := rfl
  cases hq : s.queueEmpty <;> cases ht : s.txf <;>
    (simp [State.fireTick, State.dequeue, he, hq, ht, nextPlayback, muxBuffer]; try rfl)

/-- Everything `XDONE` can do. -/
theorem after_xdone_cases (s : State) :
    (s.fault = true ∧ s.after .xdone = s.answer .halted) ∨
    (s.fault = false ∧ s.xvalid = true ∧ s.xdn = false ∧
      s.after .xdone = s.confirmTransfer.answer (.ok .completed)) ∨
    (s.fault = false ∧ ¬(s.xvalid = true ∧ s.xdn = false) ∧ s.after .xdone = s.answer (.ok .ignored)) := by
  cases hf : s.fault <;> cases hv : s.xvalid <;> cases hd : s.xdn <;>
    simp [State.after, exec, execXdone, unlessHalted, hf, hv, hd]

theorem after_txf (f : Bool) (s : State) : s.after (.txf f) = (s.setTxCondition f).answer (.ok .done) := rfl

/-- Everything `EDGE` can do. -/
theorem after_edge_cases (s : State) :
    (s.fault = true ∧ s.after .edge = s.answer .halted) ∨
    (s.fault = false ∧ s.after .edge = s.armRecheck.answer (.ok .done)) := by
  cases hf : s.fault <;> simp [State.after, exec, execEdge, unlessHalted, hf]

theorem after_lvl (m : BitVec 3) (s : State) : s.after (.lvl m) = (s.setLevels m).answer (.ok .done) := rfl

/-- Everything `RECHECK` can do. -/
theorem after_recheck_cases (s : State) :
    (s.fault = true ∧ s.after .recheck = s.answer .halted) ∨
    (s.fault = false ∧ s.recheckEnabled = false ∧ s.after .recheck = s.answer .notEnabled) ∨
    (s.fault = false ∧ s.recheckEnabled = true ∧
      s.after .recheck = (s.finishRecheck s.adjustedSpeed).answer (.ok (.speed s.adjustedSpeed))) := by
  cases hf : s.fault <;> cases hr : s.recheckEnabled <;>
    simp [State.after, exec, execRecheck, unlessHalted, hf, hr]

/-- Everything `CLK` can do. -/
theorem after_clk_cases (n : BitVec 28) (s : State) :
    (s.clkEnabled n.toNat = true ∧ s.after (.clk n) = (s.elapse n).answer (.ok .done)) ∨
    (s.clkEnabled n.toNat = false ∧ s.after (.clk n) = s.answer .notEnabled) := by
  cases h : s.clkEnabled n.toNat <;> simp [State.after, exec, execClk, h]

theorem after_rd (r : RegName) (s : State) : s.after (.rd r) = s.answer (.ok (.value (s.readReg r))) := rfl

theorem after_reset (s : State) : s.after .reset = s.restart.answer (.ok .done) := rfl

@[simp] theorem State.isRun_nil (s : State) : s.IsRun [] := trivial
@[simp] theorem State.isRun_cons (s : State) (i : Instr) (is : List Instr) :
    s.IsRun (i :: is) ↔ s.admits i = true ∧ (s.after i).IsRun is := Iff.rfl

@[simp] theorem State.stateAt_zero (s : State) (ops : Nat → Instr) : s.stateAt ops 0 = s := rfl
@[simp] theorem State.stateAt_succ (s : State) (ops : Nat → Instr) (n : Nat) :
    s.stateAt ops (n + 1) = (s.stateAt ops n).after (ops n) := rfl
@[simp] theorem State.runs_finite (s : State) (ops : List Instr) : s.Runs (.finite ops) ↔ s.IsRun ops := Iff.rfl
@[simp] theorem State.runs_infinite (s : State) (ops : Nat → Instr) :
    s.Runs (.infinite ops) ↔ s.IsInfiniteRun ops := Iff.rfl
@[simp] theorem Schedule.take_finite (n : Nat) (ops : List Instr) :
    (Schedule.finite ops).take n = ops.take n := rfl
@[simp] theorem Schedule.take_infinite (n : Nat) (ops : Nat → Instr) :
    (Schedule.infinite ops).take n = (List.range n).map ops := rfl

/-- The state an infinite sequence reaches is the one its finite part leaves. -/
theorem State.stateAt_eq_afterAll (s : State) (ops : Nat → Instr) (n : Nat) :
    s.stateAt ops n = s.afterAll ((List.range n).map ops) := by
  induction n with
  | zero => rfl
  | succ n ih => simp [List.range_succ, State.afterAll, ih]

/-- Everything a step can do. -/
theorem step_cases (s : State) :
    (∃ w rest i, s.events = w :: rest ∧ decode s.cfg w = .ok i ∧ step s = exec i { s with events := rest }) ∨
    (∃ w rest e, s.events = w :: rest ∧ decode s.cfg w = .error e ∧
      step s = .next ({ s with events := rest } : State).refuseWord) ∨
    (∃ i, s.events = [] ∧ s.urgentOperation = some i ∧ step s = exec i s) ∨
    (s.events = [] ∧ s.urgentOperation = none ∧ step s = .next s) := by
  cases he : s.events with
  | nil =>
    cases hu : s.urgentOperation with
    | none => exact .inr (.inr (.inr ⟨rfl, rfl, by simp [step, State.takeEvent, he, hu]⟩))
    | some i => exact .inr (.inr (.inl ⟨i, rfl, rfl, by simp [step, State.takeEvent, he, hu]⟩))
  | cons w rest =>
    cases hd : decode s.cfg w with
    | ok i => exact .inl ⟨w, rest, i, rfl, hd, by simp [step, State.takeEvent, he, hd]⟩
    | error e => exact .inr (.inl ⟨w, rest, e, rfl, hd, by simp [step, State.takeEvent, he, hd]⟩)

end Sys2Proof.Machine
end

