-- ==== Sys2Proof/Laws/PerInstr.lean ====
section
/-! SUPPORT. Facts about every operation as a word, one lemma per constructor. -/

namespace Sys2Proof.Laws

/-- The word of an operation carries its row's match bits under the row's mask (R92). -/
def MatchMask.Statement (i : Instr) : Prop :=
  ∃ row ∈ opcodeTable, row.name = i.mnemonic ∧ row.op = (encode i).extractLsb' 28 4 ∧
    encode i &&& row.mask = row.bits

namespace MatchMask

theorem nop : Statement .nop := by unfold Statement; decide

theorem enq (s : SymbolState) : Statement (.enq s) := by unfold Statement; cases s <;> decide

theorem enqr (s : SymbolState) (d : BitVec 16) : Statement (.enqr s d) := by
  refine ⟨⟨.enqr, 0x2#4, 0x20000000#32, 0xFFFE0000#32⟩, by decide, rfl, ?_, ?_⟩ <;>
    cases s <;> simp only [encode, SymbolState.toBit] <;>
    (apply BitVec.eq_of_getLsbD_eq; intro i hi; interval_cases i <;> simp)

theorem edge : Statement .edge := by unfold Statement; decide

theorem lvl (m : BitVec 3) : Statement (.lvl m) := by revert m; unfold Statement; decide

theorem xdone : Statement .xdone := by unfold Statement; decide

theorem txf (f : Bool) : Statement (.txf f) := by unfold Statement; cases f <;> decide

theorem clk (n : BitVec 28) : Statement (.clk n) := by
  refine ⟨⟨.clk, 0x7#4, 0x70000000#32, 0xF0000000#32⟩, by decide, rfl, ?_, ?_⟩ <;>
    simp only [encode] <;>
    (apply BitVec.eq_of_getLsbD_eq; intro i hi; interval_cases i <;> simp)

theorem tick : Statement .tick := by unfold Statement; decide

theorem recheck : Statement .recheck := by unfold Statement; decide

theorem rd (r : RegName) : Statement (.rd r) := by unfold Statement; cases r <;> decide

theorem reset : Statement .reset := by unfold Statement; decide

end MatchMask

/-- No two rows of the opcode table share an opcode, so at most one row can match a word (R92, R101). -/
theorem opcodeTable_no_overlap : opcodeTable.Pairwise fun a b => a.op ≠ b.op := by decide

end Sys2Proof.Laws
end

