-- ==== Sys2Proof/Tests/Slice0.lean ====
section
/-! SUPPORT. The model's own tests, each on one operation or one word, with expected results from the vectors of
95_test_vectors.md; and for each statement with hypotheses a witness that meets them together. -/

namespace Sys2Proof.Tests

open Sys2Proof.Machine

/-! ## Helpers -/

/-- The three-button configuration of vector DB-9. -/
def threeButtons : Config := { Config.standard with buttons := .three }

/-- State S5 of 95_test_vectors.md section 6: the tick is due and its transfer complete. -/
def tickDue : State := { State.reset with cycle := 5000000#64, xdn := true }

/-- S5 with one entry in the queue. -/
def tickDueWith (v : SymbolState) : State := { tickDue with qmem := [(0, v)], qtail := 1#9 }

/-- A state whose re-check is due, with the given Speed and pin levels. -/
def recheckDue (speed : SpeedWord) (levels : BitVec 3) : State :=
  { State.reset with
    cycle := 3000000#64, rechkDl := 3000000#64, dbst := .pending, speed := speed, btn := levels }

/-- The state after vector TK-10. -/
def faulted : State := { tickDue with xvalid := false, fault := true, fcause := 1#4, txf := true }

/-- A state with the cursors of a full queue (vector Q-4; no entry of it is read by the tests). -/
def fullQueue : State := { State.reset with qtail := 256#9 }

/-- The result of a step. -/
def resultOf : StepOutcome → Option EventOutcome
  | .next t => t.result
  | .fault _ => none
  | .refused _ => none

/-- The outcome of the first step after reset on a row's word. -/
def firstStep (w : Nat) : Option EventOutcome := resultOf (step (State.reset.withFetchWord 32 w))

/-! ## Well-formedness -/

theorem test_lvl_absent_button_refused : (Instr.lvl 0b100#3).wellFormed Config.standard = false := by decide

theorem test_lvl_third_button_accepted : (Instr.lvl 0b100#3).wellFormed threeButtons = true := by decide

theorem test_build_refuses_zero_amplitude :
    Config.build { Config.standard with waveA := 0 } = .error .amplitudeOutOfRange := by decide

theorem test_build_refuses_large_amplitude :
    Config.build { Config.standard with waveA := 65536 } = .error .amplitudeOutOfRange := by decide

theorem test_build_refuses_no_period :
    Config.build { Config.standard with waveN := 0 } = .error .noPeriod := by decide

theorem test_build_accepts_standard : Config.build Config.standard = .ok Config.standard := by decide

/-! ## Decoding: words written from the formats of 30_encoding.md (vectors ENC-1 to ENC-20) -/

theorem test_decode_nop : decode Config.standard (0x0#4 ++ 0#28) = .ok .nop := by decide

theorem test_decode_enq :
    decode Config.standard (0x1#4 ++ 0#11 ++ 0b1#1 ++ 0#16) = .ok (.enq .tone) ∧
    decode Config.standard (0x1#4 ++ 0#11 ++ 0b0#1 ++ 0#16) = .ok (.enq .silence) := by decide

theorem test_decode_enqr :
    decode Config.standard (0x2#4 ++ 0#11 ++ 0b1#1 ++ 0xFFFF#16) = .ok (.enqr .tone 65535#16) ∧
    decode Config.standard (0x2#4 ++ 0#11 ++ 0b0#1 ++ 0x0007#16) = .ok (.enqr .silence 7#16) := by decide

theorem test_decode_edge : decode Config.standard (0x3#4 ++ 0#28) = .ok .edge := by decide

theorem test_decode_lvl :
    decode Config.standard (0x4#4 ++ 0#25 ++ 0b010#3) = .ok (.lvl 2#3) ∧
    decode threeButtons (0x4#4 ++ 0#25 ++ 0b100#3) = .ok (.lvl 4#3) := by decide

theorem test_decode_xdone : decode Config.standard (0x5#4 ++ 0#28) = .ok .xdone := by decide

theorem test_decode_txf : decode Config.standard (0x6#4 ++ 0#27 ++ 0b1#1) = .ok (.txf true) := by decide

theorem test_decode_clk :
    decode Config.standard (0x7#4 ++ 0xFFFFFFF#28) = .ok (.clk 268435455#28) ∧
    decode Config.standard (0x7#4 ++ 0#28) = .ok (.clk 0#28) := by decide

theorem test_decode_tick : decode Config.standard (0x8#4 ++ 0#28) = .ok .tick := by decide

theorem test_decode_recheck : decode Config.standard (0x9#4 ++ 0#28) = .ok .recheck := by decide

theorem test_decode_rd :
    decode Config.standard (0xA#4 ++ 0#24 ++ 0b0111#4) = .ok (.rd .qcount) ∧
    decode Config.standard (0xA#4 ++ 0#24 ++ 0b0011#4) = .ok (.rd .rechkDl) := by decide

theorem test_decode_reset : decode Config.standard (0xF#4 ++ 0#28) = .ok .reset := by decide

/-- ILL-1 to ILL-5, ILL-8, ILL-9, ILL-11, ILL-13, and ILL-7 for three buttons. -/
theorem test_decode_unnamed_bits :
    [0x00000001#32, 0x10020000#32, 0x10000001#32, 0x1001FFFF#32, 0x20020000#32, 0x30000001#32, 0x50000001#32,
      0x80000001#32, 0x90000001#32, 0xF0000001#32, 0x40000008#32, 0x58000000#32, 0x60000002#32, 0xA0000010#32,
      0xFFFFFFFF#32].all (fun w => decode threeButtons w = .error .unnamedBit) = true := by decide

/-- ILL-6, ILL-10, ILL-12. -/
theorem test_decode_reserved :
    decode Config.standard 0x40000004#32 = .error .absentButton ∧
    decode Config.standard 0x40000007#32 = .error .absentButton ∧
    decode Config.standard 0xA0000008#32 = .error .reservedRegister ∧
    decode Config.standard 0xA000000F#32 = .error .reservedRegister ∧
    decode Config.standard 0xB0000000#32 = .error .reservedOpcode ∧
    decode Config.standard 0xC0000000#32 = .error .reservedOpcode ∧
    decode Config.standard 0xD1234567#32 = .error .reservedOpcode ∧
    decode Config.standard 0xE0000000#32 = .error .reservedOpcode := by decide

/-- R65: the bytes of `CLK 5000000` = 0x704C4B40, and too few bytes. -/
theorem test_decode_bytes :
    decodeBytes Config.standard [0x40#8, 0x4B#8, 0x4C#8, 0x70#8, 0xAA#8] = .ok (.clk 5000000#28, [0xAA#8]) ∧
    decodeBytes Config.standard [0x40#8, 0x4B#8, 0x4C#8] = .error .truncated := by decide

/-- The opcode table's rows through the host's numbering. -/
theorem test_decode_table_words :
    [0x00000000, 0x10000000, 0x20000000, 0x30000000, 0x40000000, 0x50000000, 0x60000000, 0x70000000, 0x80000000,
      0x90000000, 0xA0000000, 0xF0000000].map (decodeTableWord 32) =
    [some .nop, some (.enq .silence), some (.enqr .silence 0#16), some .edge, some (.lvl 0#3), some .xdone,
      some (.txf false), some (.clk 0#28), some .tick, some .recheck, some (.rd .cycle), some .reset] := by decide

theorem test_first_step_runs_the_row :
    [0x00000000, 0x10000000, 0x20000000, 0x30000000, 0x40000000, 0x50000000, 0x60000000, 0x70000000, 0x80000000,
      0x90000000, 0xA0000001, 0xB0000000, 0xF0000000].map firstStep =
    [some (.ok .done), some (.ok .accepted), some (.ok (.counts 0 0)), some (.ok .done), some (.ok .done),
      some (.ok .completed), some (.ok .done), some (.ok .done), some .notEnabled, some .notEnabled,
      some (.ok (.value 5000000#64)), some .illegal, some (.ok .done)] := by decide

/-! ## Deadlines (section 9) -/

theorem test_due :
    [5#64, 4#64, 0xFFFFFFFFFFFFFFFF#64, 9223372036854775814#64].all (due 5#64) = true ∧
    [6#64, 9223372036854775813#64, 9223372036854775812#64].any (due 5#64) = false := by decide

/-! ## Symbol Queue (section 5) -/

/-- Q-1. -/
theorem test_enq_accepts :
    let t := State.reset.after (.enq .tone)
    t.qmem = [(0, .tone)] ∧ t.qtail = 1#9 ∧ t.qcount = 1#9 ∧ t.result = some (.ok .accepted) := by decide

/-- Q-11 and Q-4: the cursor wraps from 511 to 0; a full queue drops. -/
theorem test_enq_wraps_and_drops :
    (({ State.reset with qhead := 511#9, qtail := 511#9 } : State).after (.enq .tone)).qmem = [(255, .tone)] ∧
    (({ State.reset with qhead := 511#9, qtail := 511#9 } : State).after (.enq .tone)).qtail = 0#9 ∧
    fullQueue.after (.enq .tone) = { fullQueue with result := some (.ok .full) } := by decide

/-- Q-8. -/
theorem test_enqr_expands :
    let t := State.reset.after (.enqr .tone 3#16)
    t.qmem = [(0, .tone), (1, .tone), (2, .tone)] ∧ t.qtail = 3#9 ∧ t.result = some (.ok (.counts 3 0)) := by decide

/-- Q-13. -/
theorem test_enqr_drops_the_excess :
    let t := ({ State.reset with qtail := 250#9 } : State).after (.enqr .silence 10#16)
    t.qtail = 256#9 ∧ t.result = some (.ok (.counts 6 4)) ∧ t.qmem.length = 6 := by decide

/-! ## Playback Scheduler (section 6) -/

/-- TK-1. -/
theorem test_tick_plays_tone :
    let t := (tickDueWith .tone).after .tick
    t.qhead = 1#9 ∧ t.tickDl = 10000000#64 ∧ t.txlog = [.sil, .wave] ∧ t.status = 0x0319#16 ∧
      t.result = some (.ok (.played .tone)) := by decide

/-- TK-10. -/
theorem test_tick_faults :
    let t := ({ tickDueWith .tone with txf := true } : State).after .tick
    t.qhead = 1#9 ∧ t.tickDl = 5000000#64 ∧ t.txlog = [.sil] ∧ t.status = 0x13E2#16 ∧
      t.result = some (.fault .txSubmitFail) := by decide

/-- TK-12, TK-13. -/
theorem test_xdone :
    (State.reset.after .xdone).status = 0x032A#16 ∧
    ((State.reset.after .xdone).after .xdone).result = some (.ok .ignored) := by decide

/-- TK-14. -/
theorem test_txf : (State.reset.after (.txf true)).status = 0x038A#16 := by decide

/-! ## Debounce Controller (section 7) -/

/-- DB-1, and DB-19: the deadline wraps modulo 2^64. -/
theorem test_edge :
    (State.reset.after .edge).rechkDl = 3000000#64 ∧ (State.reset.after .edge).status = 0x030E#16 ∧
    (({ State.reset with cycle := 18446744073709550616#64 } : State).after .edge).rechkDl = 2999000#64 := by decide

/-- DB-20. -/
theorem test_lvl :
    (State.reset.after (.lvl 2#3)).status = 0x020A#16 ∧ (State.reset.after (.lvl 2#3)).dbst = .armed := by decide

/-- DB-4 and DB-14. -/
theorem test_recheck_adjusts :
    ((recheckDue 5000000#32 0b10#3).after .recheck).speed = 4400000#32 ∧
    ((recheckDue 5000000#32 0b01#3).after .recheck).result = some (.ok (.speed 5600000#32)) ∧
    ((recheckDue 5000000#32 0b10#3).after .recheck).status = 0x020A#16 := by decide

/-- DB-15, DB-18, and DB-9 for the third button. -/
theorem test_recheck_wraps :
    ((recheckDue 599999#32 0b10#3).after .recheck).speed = 4294967295#32 ∧
    ((recheckDue 4294367296#32 0b01#3).after .recheck).speed = 0#32 ∧
    (({ recheckDue 5000000#32 0b011#3 with cfg := threeButtons } : State).after .recheck).speed = 6200000#32 := by
  decide

/-! ## Time base and host (section 8) -/

/-- CK-2, CK-3, CK-7. -/
theorem test_clk_passes :
    (State.reset.after (.clk 5000000#28)).status = 0x0B0A#16 ∧
    ((State.reset.after .xdone).after (.clk 5000000#28)).cycle = 5000000#64 ∧
    (({ State.reset with cycle := 18446744073709551615#64 } : State).after (.clk 1#28)).cycle = 0#64 := by decide

/-- CK-4, CK-5. -/
theorem test_clk_stops_at_deadlines :
    ((State.reset.after .xdone).after (.clk 5000001#28)).result = some .notEnabled ∧
    ((State.reset.after .edge).after (.clk 3000001#28)).result = some .notEnabled ∧
    ((State.reset.after .edge).after (.clk 3000000#28)).cycle = 3000000#64 := by decide

/-- CK-9. -/
theorem test_rd :
    [RegName.cycle, .speed, .tickDl, .rechkDl, .status, .qhead, .qtail, .qcount].map
      (fun r => (State.reset.after (.rd r)).result) =
    [0#64, 5000000#64, 5000000#64, 0#64, 0x030A#64, 0#64, 0#64, 0#64].map (fun v => some (.ok (.value v))) := by decide

/-- CK-11 with the latches of program P5 step 16. -/
theorem test_reset :
    (({ faulted with btn := 0#3 } : State).after .reset).status = 0x008A#16 ∧
    (({ faulted with btn := 0#3 } : State).after .reset).tickDl = 5000000#64 := by decide

/-- CK-10. -/
theorem test_nop : faulted.after .nop = { faulted with result := some (.ok .done) } := by decide

/-- Program P7 in miniature: with both due, the idle block performs `RECHECK`, and the tick waits. -/
theorem test_step_prefers_recheck :
    resultOf (step { recheckDue 5000000#32 0b01#3 with tickDl := 3000000#64, xdn := true }) =
      some (.ok (.speed 5600000#32)) ∧
    (({ recheckDue 5000000#32 0b01#3 with tickDl := 3000000#64, xdn := true } : State).after .tick).result =
      some .notEnabled := by decide

/-- `settle` at that point performs both, and the tick uses the adjusted Speed. -/
theorem test_settle :
    ({ recheckDue 5000000#32 0b01#3 with tickDl := 3000000#64, xdn := true } : State).settle.tickDl =
      8600000#64 := by decide

/-! ## Waveform Table (section 4) -/

/-- WF-1 and WF-11. -/
theorem test_wave_rows :
    (List.range 16).map (sample 32 16000 0 1) =
      [8000, 6000, 4000, 2000, 0, -2000, -4000, -6000, -8000, -6000, -4000, -2000, 0, 2000, 4000, 6000] ∧
    (List.range 16).map (sample 32 1000 0 3) =
      [500, 125, -250, -375, 0, 375, 250, -125, -500, -125, 250, 375, 0, -375, -250, 125] := by decide

/-- WF-12, WF-13 (odd amplitudes) and WF-8 (negative phase). -/
theorem test_wave_rounding :
    (List.range 16).map (sample 32 7 0 1) = [3, 2, 1, 0, 0, -1, -2, -3, -4, -3, -2, -1, 0, 0, 1, 2] ∧
    (List.range 16).map (sample 32 65535 0 1) =
      [32767, 24575, 16383, 8191, 0, -8192, -16384, -24576, -32768, -24576, -16384, -8192, 0, 8191, 16383, 24575] ∧
    (List.range 16).map (sample 32 16000 (-2) 1) =
      [4000, 6000, 8000, 6000, 4000, 2000, 0, -2000, -4000, -6000, -8000, -6000, -4000, -2000, 0, 2000] := by decide

/-- WF-15, WF-16 (other lengths), the sample at address 49, and the first bytes of `WAVE`. -/
theorem test_wave_layout :
    (List.range 4).map (sample 8 100 0 1) = [50, 0, -50, 0] ∧ sample 2 100 0 1 0 = 50 ∧
    sampleAt Config.standard 49#6 = 0xE0C0#16 ∧ sampleAt Config.standard 31#6 = 0#16 ∧
    ((transferSamples Config.standard .wave).take 3).flatMap bytesOfSample =
      [0x40#8, 0x1F#8, 0x40#8, 0x1F#8, 0x70#8, 0x17#8] := by decide

/-! ## Text and pseudo-instructions (R103, R104) -/

theorem test_assemble :
    (assembleLine "ENQR T, 3 ; three units".toList).map encode = some 0x20010003#32 ∧
    (assembleLine "LVL 0b10".toList).map encode = some 0x40000002#32 ∧
    (assembleLine "CLK 0x4C4B40".toList).map encode = some 0x704C4B40#32 ∧
    (assembleLine "RD TICK_DL".toList).map encode = some 0xA0000002#32 ∧
    assembleLine "RD 8".toList = none ∧ assembleLine "ENQR T, 65536".toList = none := by decide

theorem test_pseudo :
    Pseudo.expand State.reset (.press 0) = [.lvl 0b10#3] ∧
    Pseudo.expand State.reset (.wait 268435456) = [.clk 268435455#28, .clk 1#28] ∧
    Pseudo.expand State.reset (.pairs [(.tone, 1), (.silence, 65536)]) =
      [.enqr .tone 1#16, .enqr .silence 65535#16, .enqr .silence 1#16] ∧
    Pseudo.expand (State.reset.after .xdone) (.run 5000001) = [.clk 5000000#28, .tick, .clk 1#28] := by decide

/-! ## Witnesses: the hypotheses of the statements can be met, at the ends of their ranges -/

theorem witness_DecodeOfEncodeIsIdentity :
    (Instr.lvl 7#3).wellFormed threeButtons = true ∧ (Instr.lvl 3#3).wellFormed Config.standard = true ∧
    (Instr.clk 268435455#28).wellFormed Config.standard = true := by decide

theorem witness_EncodeOfDecodeIsIdentity : decode threeButtons 0x40000007#32 = .ok (.lvl 7#3) := by decide

theorem witness_IllegalWordsAreExactlyThese :
    ({ State.reset with events := [0xB0000000#32, 0#32] } : State).events = 0xB0000000#32 :: [0#32] ∧
    decode Config.standard 0xB0000000#32 = .error .reservedOpcode := by decide

theorem witness_StepRunsDecodedEvent :
    ({ State.reset with events := [0xF0000000#32] } : State).events = 0xF0000000#32 :: [] ∧
    decode State.reset.cfg 0xF0000000#32 = .ok .reset := by decide

theorem witness_StepPerformsUrgentOperations :
    (recheckDue 0#32 0#3).events = [] ∧ (recheckDue 0#32 0#3).recheckEnabled = true ∧
    tickDue.events = [] ∧ tickDue.recheckEnabled = false ∧ tickDue.tickEnabled = true ∧
    State.reset.events = [] ∧ State.reset.recheckEnabled = false ∧ State.reset.tickEnabled = false := by decide

theorem witness_RdAnswersRegisterOnly : 8 ≤ (8#4).toNat ∧ 8 ≤ (15#4).toNat := by decide

theorem witness_DueDistinguishesPastFromFuture :
    due 0#64 (0#64 - BitVec.ofNat 64 (2 ^ 63 - 1)) = true ∧ due 0#64 (0#64 - BitVec.ofNat 64 0) = true ∧
    due 0#64 (0#64 + BitVec.ofNat 64 1) = false ∧ due 0#64 (0#64 + BitVec.ofNat 64 (2 ^ 63)) = false := by decide

theorem witness_ClkOneAdvancesOneCycle :
    faulted.fault = true ∧ State.reset.recheckEnabled = false ∧ State.reset.tickEnabled = false ∧
    tickDue.tickEnabled = true ∧ (recheckDue 0#32 0#3).recheckEnabled = true := by decide

/-- One unit step before the tick's deadline is a run, a second one is not. -/
theorem witness_ClkEqualsIteratedUnitSteps :
    ({ tickDue with cycle := 4999999#64 } : State).IsRun (List.replicate (1#28).toNat (.clk 1#28)) ∧
    ¬({ tickDue with cycle := 4999999#64 } : State).IsRun (List.replicate (2#28).toNat (.clk 1#28)) := by
  constructor
  · exact ⟨by decide, trivial⟩
  · rintro ⟨-, h, -⟩
    exact absurd h (by decide)

theorem witness_EnqStoresDropsOrHalts :
    State.reset.fault = false ∧ (State.reset.qtail - State.reset.qhead).toNat ≠ 256 ∧
    fullQueue.fault = false ∧ (fullQueue.qtail - fullQueue.qhead).toNat = 256 ∧ faulted.fault = true := by decide

theorem witness_EnqrEqualsRepeatedEnq :
    State.reset.fault = false ∧ (fullQueue.qtail - fullQueue.qhead).toNat ≤ 256 ∧ faulted.fault = true ∧
    (65535#16).toNat ≤ (65535#16).toNat ∧ (0#16).toNat ≤ (0#16).toNat := by decide

theorem witness_EnqrStoresOnlyAcceptedCells :
    fullQueue.fault = false ∧ (fullQueue.qtail - fullQueue.qhead).toNat ≤ 256 ∧
    0 < min (1#16).toNat (256 - (State.reset.qtail - State.reset.qhead).toNat) ∧
    (5 : Nat) ≠ (State.reset.qtail.toNat + 0) % 256 := by decide

theorem witness_OverflowDropsOnlyNewest :
    State.reset.fault = false ∧ State.reset.queueContents.length ≤ 256 ∧
    fullQueue.queueContents.length ≤ 256 := by
  simp [State.queueContents, State.reset, State.powerOn, fullQueue, State.qcount]

theorem witness_QueueIsFirstInFirstOut :
    fullQueue.qcount.toNat ≤ 256 ∧ Instr.reset ∉ [Instr.enq .tone, .xdone, .tick] := by decide

/-- The encoder stub of program P8 (a) for its first pairs, whose durations fit one word; and the longest that does. -/
theorem witness_AdapterAttemptsSumOfDurations :
    (∀ p ∈ (fun _ => [(.tone, 1), (.silence, 1), (.tone, 65535)] : Encoder) ['S'], p.2 ≤ 65535) ∧
    encoderAdapter (fun _ => [(.tone, 1), (.silence, 1), (.tone, 65535)]) ['S'] =
      [.enqr .tone 1#16, .enqr .silence 1#16, .enqr .tone 65535#16] := by
  refine ⟨by simp, by decide⟩

theorem witness_TickEnablingConditionAsStated :
    tickDue.tickEnabled = true ∧ 1#28 ≠ 0#28 ∧
    ({ State.reset with cycle := 5000000#64 } : State).tstall = true := by decide

theorem witness_TickPlaysFaultsOrRefuses :
    tickDue.tickEnabled = true ∧ tickDue.txf = false ∧
    ({ tickDue with txf := true } : State).tickEnabled = true ∧ ({ tickDue with txf := true } : State).txf = true ∧
    State.reset.fault = false ∧ State.reset.tickEnabled = false ∧ faulted.fault = true := by decide

theorem witness_EmptyQueuePlaysSilence :
    tickDue.tickEnabled = true ∧ tickDue.txf = false ∧ tickDue.queueContents = [] ∧
    (tickDueWith .silence).tickEnabled = true ∧ (tickDueWith .silence).txf = false ∧
    (tickDueWith .silence).queueContents.head? = some .silence := by decide

theorem witness_ScheduleIsDriftFree : Instr.reset ∉ [Instr.tick, .xdone, .clk 1#28] := by decide

theorem witness_TxlogRecordsEverySubmit : Instr.reset ∉ [Instr.tick, .xdone, .tick] := by decide

theorem witness_StallEndsOnlyByCompletion :
    ({ State.reset with cycle := 5000000#64 } : State).tstall = true ∧
    ({ State.reset with cycle := 5000000#64 } : State).recheckEnabled = false ∧
    Instr.clk 1#28 ≠ .xdone ∧ Instr.clk 1#28 ≠ .reset ∧
    due (5000000#64 + (1#28).setWidth 64) State.reset.tickDl = true := by decide

/-- The last `CYCLE` at which the stalled deadline counts as past, and the first at which it does not (R22). -/
theorem witness_StallEndsOnlyByCompletion_edge :
    ({ State.reset with cycle := 9223372036859775806#64 } : State).tstall = true ∧
    due (9223372036859775806#64 + (1#28).setWidth 64) State.reset.tickDl = true ∧
    due (9223372036859775806#64 + (2#28).setWidth 64) State.reset.tickDl = false := by decide

/-- TK-17. -/
theorem witness_LateTicksCatchUp :
    ({ tickDue with cycle := 12000000#64 } : State).tickEnabled = true ∧
    ({ tickDue with cycle := 12000000#64 } : State).txf = false ∧
    due 12000000#64 (tickDue.tickDl + tickDue.speed.setWidth 64) = true := by decide

theorem witness_XdoneCompletesOrIsIgnored :
    State.reset.fault = false ∧ State.reset.xvalid = true ∧ State.reset.xdn = false ∧
    tickDue.fault = false ∧ tickDue.xdn = true ∧
    ({ State.reset with xvalid := false } : State).fault = false ∧
    ({ State.reset with xvalid := false } : State).xvalid = false ∧ faulted.fault = true := by decide

theorem witness_EdgeArmsRecheck : State.reset.fault = false ∧ faulted.fault = true := by decide

theorem witness_LvlDrivesThePins :
    (Config.standard.buttons = .two → (3#3).getLsbD 2 = false) ∧
    (threeButtons.buttons = .two → (7#3).getLsbD 2 = false) ∧ State.reset.cfg = Config.standard ∧
    ({ State.reset with cfg := threeButtons } : State).cfg = threeButtons := by decide

theorem witness_RecheckAdjustsRefusesOrHalts :
    (recheckDue 5000000#32 0#3).recheckEnabled = true ∧ State.reset.fault = false ∧
    State.reset.recheckEnabled = false ∧ faulted.fault = true := by decide

theorem witness_SpeedWrapsWithoutClamp :
    ([599999#32, 600000#32, 4294367295#32, 4294367296#32].all fun v =>
      (recheckDue v 2#3).recheckEnabled && (recheckDue v 1#3).recheckEnabled) = true ∧
    (recheckDue 0#32 2#3).cfg.buttons = .two ∧ (2#3).getLsbD 0 = false ∧ (2#3).getLsbD 1 = true ∧
    (1#3).getLsbD 0 = true ∧ (1#3).getLsbD 1 = false := by decide

theorem witness_RecheckEnabledExactlyAfterSettle :
    State.reset.fault = false ∧
    ({ State.reset.after .edge with cycle := State.reset.cycle + BitVec.ofNat 64 2999999 } : State).recheckEnabled
      = false ∧
    ({ State.reset.after .edge with cycle := State.reset.cycle + BitVec.ofNat 64 3000000 } : State).recheckEnabled
      = true ∧
    (recheckDue 0#32 0#3).recheckEnabled = true ∧ 1#28 ≠ 0#28 := by decide

/-- The gaps of vector DB-5; and an enabled re-check. -/
theorem witness_EdgeBurstArmsOneRecheck :
    State.reset.fault = false ∧ (∀ g ∈ [100#28, 2999999#28, 2999999#28, 50#28], g.toNat < 3000000) ∧
    [Instr.clk 100#28] <+: [100#28, 2999999#28].flatMap (fun g => [.clk g, .edge]) ∧
    (recheckDue 0#32 0#3).recheckEnabled = true := by
  refine ⟨rfl, by simp, ?_, by decide⟩
  exact ⟨[.edge, .clk 2999999#28, .edge], rfl⟩

theorem witness_NoAdjustmentWithoutEdge :
    State.reset.dbst = .armed ∧ Instr.edge ∉ [Instr.lvl 0#3, .clk 4000000#28, .recheck] ∧
    Instr.reset ∉ [Instr.lvl 0#3, .clk 4000000#28, .recheck] := by decide

/-- The state of program P7 before its step 8. -/
theorem witness_RecheckGoesBeforeTick :
    let s : State := { recheckDue 5000000#32 0b01#3 with tickDl := 3000000#64, xdn := true }
    s.recheckEnabled = true ∧ due s.cycle s.tickDl = true ∧ s.xvalid = true ∧ s.xdn = true ∧
      (s.after .recheck).txf = false := by decide

theorem witness_ResetRestoresTableKeepsLatches : faulted.fault = true ∧ Instr.tick ≠ .reset := by decide

theorem witness_FaultHaltsEveryContext : faulted.fault = true := by decide

theorem witness_FaultIsStickyUntilReset :
    faulted.fault = true ∧ Instr.reset ∉ [Instr.tick, .edge, .clk 10#28] := by decide

theorem witness_EachRegisterHasOneWriter :
    exec .tick tickDue = .next (tickDue.after .tick) ∧ Instr.tick ≠ .reset ∧
    exec .edge (recheckDue 0#32 0#3) = .next ((recheckDue 0#32 0#3).after .edge) ∧
    (recheckDue 0#32 0#3).dbst = .pending ∧ exec .xdone tickDue = .next (tickDue.after .xdone) ∧
    tickDue.xdn = true := by
  refine ⟨rfl, by decide, rfl, rfl, rfl, rfl⟩

/-- A refused `TICK` that leaves `XDN` = 1 (TK-4), and a refused `RECHECK` that leaves Pending (DB-3). -/
theorem witness_EachRegisterHasOneWriter_refused :
    exec .tick { tickDue with cycle := 4999999#64 } = .next (({ tickDue with cycle := 4999999#64 } : State).after .tick) ∧
    (({ tickDue with cycle := 4999999#64 } : State).after .tick).xdn = true ∧
    exec .recheck { recheckDue 0#32 0#3 with cycle := 2999999#64 } =
      .next (({ recheckDue 0#32 0#3 with cycle := 2999999#64 } : State).after .recheck) ∧
    (({ recheckDue 0#32 0#3 with cycle := 2999999#64 } : State).after .recheck).dbst = .pending := by
  refine ⟨rfl, by decide, rfl, by decide⟩

theorem witness_ConfigAndEventsKeptResetsCounted :
    exec .reset faulted = .next (faulted.after .reset) ∧ exec .nop faulted = .next (faulted.after .nop) ∧
    Instr.nop ≠ .reset := ⟨rfl, rfl, by decide⟩

/-- Disabled: `TICK` and `RECHECK` after a fault and before they are due, `CLK` over a deadline. -/
theorem witness_RunsHoldEnabledOperationsOnly :
    faulted.enables .tick = false ∧ faulted.enables .recheck = false ∧ State.reset.enables .tick = false ∧
    State.reset.enables .recheck = false ∧ tickDue.enables (.clk 1#28) = false ∧
    tickDue.enables (.clk 0#28) = true ∧ faulted.fault = true := by decide

/-- A hardware run that ends with its first tick; and runs from a fault, of which a halted `TICK` is none (R227). -/
theorem witness_RunsHoldEnabledOperationsOnly_runs :
    IsHardwareRun Config.standard 7#3 false (.finite ([.xdone, .clk 5000000#28] ++ .tick :: [])) ∧
    faulted.IsRun [.enq .tone, .clk 10#28] ∧ Instr.reset ∉ [Instr.enq .tone, .clk 10#28] ∧
    ¬faulted.IsRun [.tick] := by
  refine ⟨⟨by decide, by decide, by decide, trivial⟩, ⟨by decide, by decide, trivial⟩, by decide, ?_⟩
  rintro ⟨h, -⟩
  exact absurd h (by decide)

theorem witness_RunsAreFiniteOrInfinite : tickDue.IsRun [.tick, .xdone, .clk 5000000#28, .tick] :=
  ⟨by decide, by decide, by decide, by decide, trivial⟩

/-- R227 with R100: with two buttons an `LVL` that names the third stands in no run; with three it may. -/
theorem test_run_excludes_illegal_lvl :
    ¬IsHardwareRun Config.standard 7#3 false (.finite [.lvl 4#3]) ∧
    IsHardwareRun threeButtons 7#3 false (.finite [.lvl 4#3]) := by
  refine ⟨?_, by decide, trivial⟩
  rintro ⟨h, -⟩
  exact absurd h (by decide)

theorem witness_StepsFollowInfiniteSchedules_run : State.reset.IsInfiniteRun fun _ => .nop := fun _ => rfl

/-- The schedule that alternates `NOP` and `CLK 1`. -/
theorem witness_StepsFollowInfiniteSchedules :
    ∀ n, ((fun n => if n % 2 = 0 then Instr.nop else .clk 1#28) n).wellFormed State.reset.cfg = true := by
  intro n
  dsimp only
  split <;> rfl

/-- After a fault the counter runs for ever: an infinite run in which the environment does its duties (R244, R262). -/
theorem test_infinite_run : faulted.FairRun fun _ => .clk 1#28 := by
  have h : ∀ n, (faulted.stateAt (fun _ => .clk 1#28) n).fault = true := by
    intro n
    induction n with
    | zero => rfl
    | succ n ih =>
      rw [State.stateAt_succ]
      rcases after_clk_cases 1#28 (faulted.stateAt (fun _ => .clk 1#28) n) with ⟨-, e⟩ | ⟨-, e⟩ <;> simpa [e] using ih
  refine ⟨fun n => ?_, fun n _ _ => ⟨n, Nat.le_refl n, .inr (.inr (h n))⟩, .inl fun n => ⟨n, Nat.le_refl n, 1#28, rfl, by decide⟩⟩
  simp [State.admits, Instr.wellFormed, State.clkEnabled, h n]

/-- The reset state meets the invariants and takes a step. -/
theorem witness_StepKeepsInvariant :
    State.reset.Inv ∧ step (State.reset) = .next State.reset ∧
    step ({ State.reset with events := [0x80000000#32] } : State) =
      .next { State.reset with result := some .notEnabled } := by
  refine ⟨?_, by rfl, by rfl⟩
  constructor <;> decide

theorem witness_SettleTerminates : 2 ≤ 2 := by decide

theorem witness_SampleEqualsExactFormula :
    2 ≤ 32 ∧ 32 % 2 = 0 ∧ 2 % 2 = 0 ∧ 1 ≤ 65535 ∧ 65535 ≤ 65535 ∧ 1 ≤ 1 := by decide

theorem witness_SamplesAreBounded :
    Config.standard.wellFormed = true ∧ ({ Config.standard with waveA := 65535 } : Config).wellFormed = true ∧
    ({ Config.standard with waveA := 1 } : Config).wellFormed = true := by decide

theorem witness_SamplesArePeriodic : 1 ≤ 1 ∧ 16 % 1 = 0 ∧ 1 ≤ 16 ∧ 16 % 16 = 0 := by decide

theorem witness_BuffersAreLaidOutAsStated : (15 : Nat) < 16 ∧ (31 : Nat) < 32 := by decide

end Sys2Proof.Tests
end

section
/-! The word of a well-formed operation decodes to the operation (R91 to R93, R101). -/

namespace Sys2Proof

open Laws

/-- The word of every operation matches the operation's row of the opcode table. -/
theorem encode_matches_row (i : Instr) : MatchMask.Statement i := by
  cases i with
  | nop => exact MatchMask.nop
  | enq v => exact MatchMask.enq v
  | enqr v d => exact MatchMask.enqr v d
  | edge => exact MatchMask.edge
  | lvl m => exact MatchMask.lvl m
  | xdone => exact MatchMask.xdone
  | txf f => exact MatchMask.txf f
  | clk n => exact MatchMask.clk n
  | tick => exact MatchMask.tick
  | recheck => exact MatchMask.recheck
  | rd r => exact MatchMask.rd r
  | reset => exact MatchMask.reset

/-- Looking a row's opcode up finds that row, since opcodes are distinct. -/
theorem opcodeTable_find?_op : ∀ row ∈ opcodeTable, opcodeTable.find? (fun r => r.op == row.op) = some row := by
  decide

/-- The decoder reaches the operands of the row an operation belongs to. -/
theorem decode_encode_eq_operandsOf (cfg : Config) (i : Instr) :
    decode cfg (encode i) = operandsOf cfg (encode i) i.mnemonic := by
  obtain ⟨row, hmem, hname, hop, hmask⟩ := encode_matches_row i
  simp [decode, ← hop, opcodeTable_find?_op row hmem, hmask, hname]

/-- The operand in the low bits of a word, beside fixed bits `c` that leave its place zero. -/
theorem extractLsb'_or_setWidth {m n : Nat} {c : BitVec n} (hmn : m ≤ n) (x : BitVec m)
    (hc : c.extractLsb' 0 m = 0#m) : (c ||| x.setWidth n).extractLsb' 0 m = x := by
  rw [BitVec.extractLsb'_or, hc, ← BitVec.setWidth_eq_extractLsb' hmn, BitVec.setWidth_setWidth_of_le _ hmn]
  simp

@[simp] theorem RegName.ofNumber_number (r : RegName) : RegName.ofNumber r.number = some r := by
  cases r <;> rfl

@[simp] theorem encode_enq_symbol (v : SymbolState) : SymbolState.ofBool ((encode (.enq v))[16]) = v := by
  cases v <;> rfl

@[simp] theorem encode_enqr_symbol (v : SymbolState) (d : BitVec 16) :
    SymbolState.ofBool ((encode (.enqr v d))[16]) = v := by
  cases v <;> simp [encode, SymbolState.toBit, SymbolState.ofBool]

@[simp] theorem encode_enqr_duration (v : SymbolState) (d : BitVec 16) :
    (encode (.enqr v d)).extractLsb' 0 16 = d := by
  cases v <;> exact extractLsb'_or_setWidth (by decide) d (by decide)

@[simp] theorem encode_lvl_levels (m : BitVec 3) : (encode (.lvl m)).extractLsb' 0 3 = m :=
  extractLsb'_or_setWidth (by decide) m (by decide)

@[simp] theorem encode_txf_condition (f : Bool) : (encode (.txf f))[0] = f := by
  cases f <;> rfl

@[simp] theorem encode_clk_cycles (n : BitVec 28) : (encode (.clk n)).extractLsb' 0 28 = n :=
  extractLsb'_or_setWidth (by decide) n (by decide)

@[simp] theorem encode_rd_number (r : RegName) : (encode (.rd r)).extractLsb' 0 4 = r.number := by
  cases r <;> rfl

/-- The decoder reads the word of a well-formed operation back. -/
theorem decode_encode {cfg : Config} {i : Instr} (h : i.wellFormed cfg = true) : decode cfg (encode i) = .ok i := by
  rw [decode_encode_eq_operandsOf]
  cases i with
  | lvl m => simp [Instr.mnemonic, operandsOf, h]
  | nop | enq | enqr | edge | xdone | txf | clk | tick | recheck | rd | reset => simp [Instr.mnemonic, operandsOf]

end Sys2Proof
end

section
/-! Facts about every operation: the configuration is never written, and a step performs the issued word. -/

namespace Sys2Proof.Machine

/-! ## The configuration is a parameter of the run (R6, R45) -/

@[simp] theorem State.pushTimes_cfg (n : Nat) (v : SymbolState) (s : State) : (State.pushTimes n v s).cfg = s.cfg := by
  obtain ⟨m, hm⟩ := State.pushTimes_frame n v s
  rw [hm]

@[simp] theorem State.fireTick_cfg (s : State) : s.fireTick.cfg = s.cfg := by
  rcases fireTick_cases s with ⟨-, -, h⟩ | ⟨-, -, h⟩ | ⟨-, -, h⟩ | ⟨-, -, p, -, h⟩ <;> simp [h]

/-- No operation writes the configuration. -/
@[simp] theorem State.after_cfg (s : State) (i : Instr) : (s.after i).cfg = s.cfg := by
  cases i with
  | nop => simp [after_nop]
  | enq v => rcases after_enq_cases v s with ⟨-, h⟩ | ⟨-, -, h⟩ | ⟨-, -, h⟩ <;> simp [h]
  | enqr v d => rcases after_enqr_cases v d s with ⟨-, h⟩ | ⟨-, h⟩ <;> simp [h]
  | edge => rcases after_edge_cases s with ⟨-, h⟩ | ⟨-, h⟩ <;> simp [h]
  | lvl m => simp [after_lvl]
  | xdone => rcases after_xdone_cases s with ⟨-, h⟩ | ⟨-, -, -, h⟩ | ⟨-, -, h⟩ <;> simp [h]
  | txf f => simp [after_txf]
  | clk n => rcases after_clk_cases n s with ⟨-, h⟩ | ⟨-, h⟩ <;> simp [h]
  | tick => rcases after_tick_cases s with ⟨-, h⟩ | ⟨-, -, h⟩ | ⟨-, -, h⟩ <;> simp [h]
  | recheck => rcases after_recheck_cases s with ⟨-, h⟩ | ⟨-, -, h⟩ | ⟨-, -, h⟩ <;> simp [h]
  | rd r => simp [after_rd]
  | reset => simp [after_reset]

@[simp] theorem State.stateAt_cfg (s : State) (ops : Nat → Instr) (n : Nat) : (s.stateAt ops n).cfg = s.cfg := by
  induction n with
  | zero => rfl
  | succ n ih => simp [ih]

/-! ## A step on an issued word (R94) -/

/-- The machine performs the operation whose word is issued next. -/
theorem step_issue {s : State} {w : EventWord} {i : Instr} (h : decode s.cfg w = .ok i) :
    step (s.issue w) = .next (s.after i) := by
  have hstep : step (s.issue w) = exec i s := by
    simp [step, State.takeEvent, h]
  rw [hstep, exec_eq_after]

end Sys2Proof.Machine
end

section
/-! Finite and infinite runs (R2, R227), and the statements of the scope chapter. -/

namespace Sys2Proof.Machine

/-! ## Runs and their beginnings -/

theorem State.isRun_append (s : State) (before rest : List Instr) :
    s.IsRun (before ++ rest) ↔ s.IsRun before ∧ (s.afterAll before).IsRun rest := by
  induction before generalizing s with
  | nil => simp [State.afterAll]
  | cons i is ih => simp [ih, and_assoc, State.afterAll]

/-- Every beginning of a finite run is a run. -/
theorem State.IsRun.take {s : State} {ops : List Instr} (h : s.IsRun ops) (n : Nat) : s.IsRun (ops.take n) := by
  rw [← List.take_append_drop n ops, State.isRun_append] at h
  exact h.1

/-- One operation more at the end of a run must be admitted in the state the run leaves. -/
theorem State.isRun_map_range_succ (s : State) (ops : Nat → Instr) (n : Nat) :
    s.IsRun ((List.range (n + 1)).map ops) ↔
      s.IsRun ((List.range n).map ops) ∧ (s.stateAt ops n).admits (ops n) = true := by
  simp [List.range_succ, State.isRun_append, State.stateAt_eq_afterAll]

theorem State.isInfiniteRun_iff (s : State) (ops : Nat → Instr) :
    s.IsInfiniteRun ops ↔ ∀ n, s.IsRun ((List.range n).map ops) := by
  constructor
  · intro h n
    induction n with
    | zero => simp
    | succ n ih => exact (s.isRun_map_range_succ ops n).2 ⟨ih, h n⟩
  · intro h n
    exact ((s.isRun_map_range_succ ops n).1 (h (n + 1))).2

/-! ## Every finite run goes on for ever: `NOP` is admitted in every state (R225) -/

/-- The operations of a list, and `NOP` for ever after. -/
def thenNops (before : List Instr) (n : Nat) : Instr := before.getD n .nop

theorem map_thenNops_range (before : List Instr) (n : Nat) (h : n ≤ before.length) :
    (List.range n).map (thenNops before) = before.take n := by
  apply List.ext_getElem
  · simp [h]
  · intro k hk _
    have hk : k < before.length := by simp at hk; omega
    simp [thenNops, hk]

@[simp] theorem State.admits_nop (s : State) : s.admits .nop = true := rfl

theorem State.IsRun.isInfiniteRun_thenNops {s : State} {before : List Instr} (h : s.IsRun before) :
    s.IsInfiniteRun (thenNops before) := by
  intro n
  rcases Nat.lt_or_ge n before.length with hn | hn
  · have hrun : s.IsRun ((List.range (n + 1)).map (thenNops before)) := by
      rw [map_thenNops_range before (n + 1) hn]
      exact h.take (n + 1)
    exact ((s.isRun_map_range_succ _ n).1 hrun).2
  · have hnop : thenNops before n = .nop := by simp [thenNops, hn]
    rw [hnop, State.admits_nop]

/-! ## The statements -/

/-- Settles O44: an infinite run is the union of its beginnings, and `NOP`s continue any finite run for ever. -/
theorem runsAreFiniteOrInfinite : Obligations.RunsAreFiniteOrInfinite := by
  refine ⟨fun s r => ?_, fun s before h => ⟨thenNops before, h.isInfiniteRun_thenNops, ?_⟩⟩
  · cases r with
    | finite ops => exact ⟨fun h n => h.take n, fun h => by simpa using h ops.length⟩
    | infinite ops => exact s.isInfiniteRun_iff ops
  · simpa using map_thenNops_range before before.length le_rfl

/-- Settles O45: every state of the schedule has the initial configuration, so each word decodes to its operation. -/
theorem stepsFollowInfiniteSchedules : Obligations.StepsFollowInfiniteSchedules := by
  intro s ops
  refine ⟨fun hwf n => ?_, fun hrun n => ?_⟩
  · have hdec : decode (s.stateAt ops n).cfg (encode (ops n)) = .ok (ops n) := by
      rw [State.stateAt_cfg]
      exact decode_encode (hwf n)
    rw [step_issue hdec, State.stateAt_succ]
  · obtain ⟨hwf, -⟩ := (State.admits_iff _ _).1 (hrun n)
    rwa [State.stateAt_cfg] at hwf

/-- Settles O49: each of the four cases of a step answers a next state. -/
theorem everyStepLeavesNextState : Obligations.EveryStepLeavesNextState := by
  intro s
  rcases step_cases s with ⟨w, rest, i, -, -, h⟩ | ⟨w, rest, e, -, -, h⟩ | ⟨i, -, -, h⟩ | ⟨-, -, h⟩
  · exact ⟨_, h.trans (exec_eq_after i _)⟩
  · exact ⟨_, h⟩
  · exact ⟨_, h.trans (exec_eq_after i s)⟩
  · exact ⟨s, h⟩

end Sys2Proof.Machine
end

section
/-! What an operation writes, said once for all of them, and the frame of each register (R42). -/

namespace Sys2Proof.Machine

/-! ## The dequeue writes `QHEAD` only (R143) -/

/-- Whether or not there is an entry, only `QHEAD` can differ afterwards. -/
theorem State.dequeue_frame (s : State) : ∃ head, s.dequeue.2 = { s with qhead := head } := by
  rcases s.dequeue_cases with ⟨-, h⟩ | ⟨-, h⟩
  · exact ⟨s.qhead, by rw [h]⟩
  · exact ⟨s.qhead + 1#9, by rw [h]; rfl⟩

/-- Consuming the handle and dequeuing do not meet: the first writes `XVALID`, the second `QHEAD`. -/
theorem State.dequeue_consumeHandle (s : State) :
    s.consumeHandle.dequeue = (s.dequeue.1, s.dequeue.2.consumeHandle) := by
  have hempty : s.consumeHandle.queueEmpty = s.queueEmpty := rfl
  rcases s.dequeue_cases with ⟨hq, h⟩ | ⟨hq, h⟩
  · simp [State.dequeue, hempty, hq]
  · simp only [State.dequeue, hempty, hq]
    rfl

/-! ## One case per way an operation writes the state -/

/-- `Effect s i u`: performing `i` in `s` writes `u`, the recorded outcome aside. An operation that only answers
(`NOP`, `RD`, and every refused, halted, full or ignored one) is `kept`. -/
inductive Effect (s : State) : Instr → State → Prop
  | kept {i : Instr} : i ≠ .reset → (i = .tick → s.tickEnabled = false) → Effect s i s
  | enq (v : SymbolState) : s.queueFull = false → Effect s (.enq v) (s.push v)
  | enqr (v : SymbolState) (d : BitVec 16) :
      Effect s (.enqr v d) (State.pushTimes (min d.toNat s.freeSlots.toNat) v s)
  | edge : Effect s .edge s.armRecheck
  | lvl (m : BitVec 3) : Effect s (.lvl m) (s.setLevels m)
  | xdone : Effect s .xdone s.confirmTransfer
  | txf (f : Bool) : Effect s (.txf f) (s.setTxCondition f)
  | clk (n : BitVec 28) : Effect s (.clk n) (s.elapse n)
  | tickFaults : s.tickEnabled = true → s.txf = true →
      Effect s .tick (s.dequeue.2.consumeHandle.raiseFault .txSubmitFail)
  | tickPlays (p : PlaybackState) : s.tickEnabled = true → s.txf = false →
      Effect s .tick ((s.dequeue.2.consumeHandle.submit (muxBuffer p)).showPlayback p).reschedule
  | recheck : Effect s .recheck (s.finishRecheck s.adjustedSpeed)
  | reset : Effect s .reset s.restart

/-- The body of an enabled tick submits or faults, after consuming the handle and dequeuing (R162). -/
theorem effect_fireTick {s : State} (h : s.tickEnabled = true) :
    ∃ u o, Effect s .tick u ∧ s.fireTick = u.answer o := by
  cases hf : s.txf with
  | true =>
    refine ⟨_, .fault .txSubmitFail, .tickFaults h hf, ?_⟩
    simp only [State.fireTick, State.dequeue_consumeHandle, hf, if_true]
    rfl
  | false =>
    refine ⟨_, .ok (.played (nextPlayback s.dequeue.1)), .tickPlays (nextPlayback s.dequeue.1) h hf, ?_⟩
    simp [State.fireTick, State.dequeue_consumeHandle, hf]

/-- Every operation records its outcome in a state it has written in one of these ways. -/
theorem after_effect (s : State) (i : Instr) : ∃ u o, Effect s i u ∧ s.after i = u.answer o := by
  cases i with
  | nop => exact ⟨_, _, .kept nofun nofun, after_nop s⟩
  | enq v =>
    rcases after_enq_cases v s with ⟨-, h⟩ | ⟨-, -, h⟩ | ⟨-, hq, h⟩
    · exact ⟨_, _, .kept nofun nofun, h⟩
    · exact ⟨_, _, .kept nofun nofun, h⟩
    · exact ⟨_, _, .enq v hq, h⟩
  | enqr v d =>
    rcases after_enqr_cases v d s with ⟨-, h⟩ | ⟨-, h⟩
    · exact ⟨_, _, .kept nofun nofun, h⟩
    · exact ⟨_, _, .enqr v d, h⟩
  | edge =>
    rcases after_edge_cases s with ⟨-, h⟩ | ⟨-, h⟩
    · exact ⟨_, _, .kept nofun nofun, h⟩
    · exact ⟨_, _, .edge, h⟩
  | lvl m => exact ⟨_, _, .lvl m, after_lvl m s⟩
  | xdone =>
    rcases after_xdone_cases s with ⟨-, h⟩ | ⟨-, -, -, h⟩ | ⟨-, -, h⟩
    · exact ⟨_, _, .kept nofun nofun, h⟩
    · exact ⟨_, _, .xdone, h⟩
    · exact ⟨_, _, .kept nofun nofun, h⟩
  | txf f => exact ⟨_, _, .txf f, after_txf f s⟩
  | clk n =>
    rcases after_clk_cases n s with ⟨-, h⟩ | ⟨-, h⟩
    · exact ⟨_, _, .clk n, h⟩
    · exact ⟨_, _, .kept nofun nofun, h⟩
  | tick =>
    rcases after_tick_cases s with ⟨hf, h⟩ | ⟨-, ht, h⟩ | ⟨-, ht, h⟩
    · exact ⟨_, _, .kept nofun fun _ => by simp [State.tickEnabled, hf], h⟩
    · exact ⟨_, _, .kept nofun fun _ => ht, h⟩
    · rw [h]
      exact effect_fireTick ht
  | recheck =>
    rcases after_recheck_cases s with ⟨-, h⟩ | ⟨-, -, h⟩ | ⟨-, -, h⟩
    · exact ⟨_, _, .kept nofun nofun, h⟩
    · exact ⟨_, _, .kept nofun nofun, h⟩
    · exact ⟨_, _, .recheck, h⟩
  | rd r => exact ⟨_, _, .kept nofun nofun, after_rd r s⟩
  | reset => exact ⟨_, _, .reset, after_reset s⟩

theorem exec_effect {s t : State} {i : Instr} (h : exec i s = .next t) :
    ∃ u o, Effect s i u ∧ t = u.answer o := by
  rw [← after_eq_of_exec h]
  exact after_effect s i

end Sys2Proof.Machine
end

section
/-! The state invariants of R39 hold at power-on and every step keeps them. -/

namespace Sys2Proof.Machine

/-! ## Power-on -/

/-- Cutting the levels of absent buttons twice cuts the same ones (R34). -/
@[simp] theorem buttonLevels_idem (cfg : Config) (m : BitVec 3) :
    buttonLevels cfg (buttonLevels cfg m) = buttonLevels cfg m := by
  unfold buttonLevels
  cases cfg.buttons
  · simp [BitVec.and_assoc]
  · rfl

theorem State.powerOn_asReset (cfg : Config) (btn : BitVec 3) (txf : Bool) :
    (State.powerOn cfg btn txf).AsReset := by
  constructor <;> rfl

@[simp] theorem State.powerOn_qcount (cfg : Config) (btn : BitVec 3) (txf : Bool) :
    (State.powerOn cfg btn txf).qcount = 0#9 := by
  simp [State.qcount, State.powerOn]

theorem State.powerOn_inv (cfg : Config) (btn : BitVec 3) (txf : Bool) : (State.powerOn cfg btn txf).Inv where
  handleOutstanding _ := rfl
  outputsAgree _ := ⟨rfl, rfl⟩
  occupancy := by simp
  faultRecorded := nofun
  noFaultNoCause _ := rfl
  memoryCanonical := Memory.wf_nil
  occupiedWritten := by simp
  buttonsExist := buttonLevels_idem cfg btn
  lastSubmitted := rfl

/-! ## Updates of registers the invariants do not speak of -/

section
variable {s : State} (h : s.Inv)
include h

theorem State.Inv.answer (o : EventOutcome) : (s.answer o).Inv := { h with }

theorem State.Inv.withEvents (rest : List EventWord) : ({ s with events := rest } : State).Inv := { h with }

theorem State.Inv.armRecheck : s.armRecheck.Inv := { h with }

theorem State.Inv.finishRecheck (v : SpeedWord) : (s.finishRecheck v).Inv := { h with }

theorem State.Inv.confirmTransfer : s.confirmTransfer.Inv := { h with }

theorem State.Inv.setTxCondition (f : Bool) : (s.setTxCondition f).Inv := { h with }

theorem State.Inv.elapse (n : BitVec 28) : (s.elapse n).Inv := { h with }

/-! ## Updates of the queue -/

/-- An accepted enqueue writes the cell it adds to the occupied ones. -/
theorem State.Inv.push (v : SymbolState) (hroom : s.qcount.toNat < Config.qcap) : (s.push v).Inv :=
  { h with
    occupancy := by
      rw [State.qcount_push s v hroom]
      exact hroom
    memoryCanonical := Memory.wf_write h.memoryCanonical (cellOf_lt _) v
    occupiedWritten := by
      intro k hk
      rw [State.qcount_push s v hroom] at hk
      rw [State.push_qmem, State.push_qhead]
      by_cases hc : (s.qhead.toNat + k) % Config.qcap = cellOf s.qtail
      · rw [hc, Memory.read?_write_same, Option.isSome_some]
      · have hne : k ≠ s.qcount.toNat := by
          rintro rfl
          exact hc s.cellOf_qtail.symm
        rw [Memory.read?_write_other hc]
        exact h.occupiedWritten k (by omega) }

theorem State.Inv.pushTimes (v : SymbolState) (n : Nat) (hroom : s.qcount.toNat + n ≤ Config.qcap) :
    (State.pushTimes n v s).Inv := by
  induction n generalizing s with
  | zero => exact h
  | succ n ih =>
    have hcount := State.qcount_push s v (by omega)
    exact ih (h.push v (by omega)) (by omega)

/-- Releasing the oldest entry takes its cell off the occupied ones. -/
theorem State.Inv.release (hne : s.queueEmpty = false) : s.release.Inv := by
  have hcount : s.release.qcount.toNat + 1 = s.qcount.toNat := by
    apply State.qcount_release
    intro h0
    simp [(State.queueEmpty_iff s).2 h0] at hne
  exact
    { h with
      occupancy := by have := h.occupancy; omega
      occupiedWritten := by
        intro k hk
        have hcell : (s.release.qhead.toNat + k) % Config.qcap = (s.qhead.toNat + (k + 1)) % Config.qcap := by
          simp only [State.release_qhead, BitVec.toNat_add, BitVec.toNat_ofNat, Config.qcap]
          omega
        rw [State.release_qmem, hcell]
        exact h.occupiedWritten (k + 1) (by omega) }

theorem State.Inv.dequeue : s.dequeue.2.Inv := by
  rcases s.dequeue_cases with ⟨-, hd⟩ | ⟨hne, hd⟩
  · rwa [hd]
  · rw [hd]
    exact h.release hne

/-! ## Updates of the handle, the outputs, the fault and the buttons -/

/-- A refused submit leaves no handle outstanding and records its cause (R242, R243). -/
theorem State.Inv.refuseSubmit : (s.consumeHandle.raiseFault .txSubmitFail).Inv :=
  { h with
    handleOutstanding := nofun
    outputsAgree := nofun
    faultRecorded := fun _ => ⟨rfl, rfl⟩
    noFaultNoCause := nofun }

/-- An accepted submit leaves a handle outstanding that agrees with the outputs (R162). -/
theorem State.Inv.playSubmit (hfault : s.fault = false) (p : PlaybackState) :
    ((s.consumeHandle.submit (muxBuffer p)).showPlayback p).reschedule.Inv :=
  { h with
    handleOutstanding := fun _ => rfl
    outputsAgree := fun _ => ⟨rfl, by cases p <;> rfl⟩
    faultRecorded := by simp [hfault]
    lastSubmitted := by simp }

theorem State.Inv.setLevels (m : BitVec 3) : (s.setLevels m).Inv :=
  { h with buttonsExist := buttonLevels_idem s.cfg m }

theorem State.Inv.restart : s.restart.Inv :=
  { State.powerOn_inv s.cfg s.btn s.txf with buttonsExist := h.buttonsExist }

/-! ## Every operation -/

theorem State.Inv.effect {i : Instr} {u : State} (he : Effect s i u) : u.Inv := by
  cases he with
  | kept => exact h
  | enq v hq =>
    have hcap : s.qcount.toNat ≠ Config.qcap := fun hc => by simp [(State.queueFull_iff s).2 hc] at hq
    exact h.push v (lt_of_le_of_ne h.occupancy hcap)
  | enqr v d =>
    apply h.pushTimes
    rw [State.freeSlots_toNat s h.occupancy]
    have := h.occupancy
    omega
  | edge => exact h.armRecheck
  | lvl m => exact h.setLevels m
  | xdone => exact h.confirmTransfer
  | txf f => exact h.setTxCondition f
  | clk n => exact h.elapse n
  | tickFaults => exact h.dequeue.refuseSubmit
  | tickPlays p ht =>
    obtain ⟨hfault, -⟩ := s.tickEnabled_iff.1 ht
    obtain ⟨head, hd⟩ := s.dequeue_frame
    exact h.dequeue.playSubmit (by simpa [hd] using hfault) p
  | recheck => exact h.finishRecheck _
  | reset => exact h.restart

theorem State.Inv.after (i : Instr) : (s.after i).Inv := by
  obtain ⟨u, o, he, ha⟩ := after_effect s i
  rw [ha]
  exact (h.effect he).answer o

/-- Every step keeps the invariants, whichever of its four cases it takes. -/
theorem State.Inv.step {t : State} (hstep : step s = .next t) : t.Inv := by
  rcases step_cases s with ⟨w, rest, i, -, -, hs⟩ | ⟨w, rest, e, -, -, hs⟩ | ⟨i, -, -, hs⟩ | ⟨-, -, hs⟩ <;>
    rw [hs] at hstep
  · exact after_eq_of_exec hstep ▸ (h.withEvents rest).after i
  · exact Host.Outcome.next.inj hstep ▸ (h.withEvents rest).answer .illegal
  · exact after_eq_of_exec hstep ▸ h.after i
  · exact Host.Outcome.next.inj hstep ▸ h

end

/-! ## The statements -/

/-- Settles O1: the power-on state is written down as the reset table. -/
theorem powerOnStateIsResetTable : Obligations.PowerOnStateIsResetTable := fun cfg btn txf =>
  ⟨State.powerOn_asReset cfg btn txf, rfl, rfl, rfl, State.powerOn_asReset _ _ _⟩

/-- Settles O47: a handle is outstanding, there is no fault and the queue is empty. -/
theorem powerOnMeetsInvariant : Obligations.PowerOnMeetsInvariant := State.powerOn_inv

/-- Settles O46: each operation's effect keeps the invariants, and so do a refused word and an idle step. -/
theorem stepKeepsInvariant : Obligations.StepKeepsInvariant := fun _ _ h hstep => h.step hstep

end Sys2Proof.Machine
end

section
/-! The one writer of each register (R42), the model's own fields, and the ghost log (R36). -/

namespace Sys2Proof.Machine

/-- Settles O41: in each way an operation writes the state, the registers of other agents are as before. -/
theorem eachRegisterHasOneWriter : Obligations.EachRegisterHasOneWriter := by
  intro i s t hexec hreset
  obtain ⟨u, o, he, rfl⟩ := exec_effect hexec
  obtain ⟨head, hd⟩ := s.dequeue_frame
  cases he with
  | enq v => simp
  | enqr v d =>
    obtain ⟨m, hm⟩ := State.pushTimes_frame (min d.toNat s.freeSlots.toNat) v s
    simp [hm]
  | tickFaults => simp [hd, State.readCell]
  | tickPlays p => simp [hd, State.readCell]
  | kept | edge | lvl | xdone | txf | clk | recheck => simp [State.readCell]
  | reset => exact absurd rfl hreset

/-- Settles O42: no effect writes the configuration or the events, and only `restart` counts a reset. -/
theorem configAndEventsKeptResetsCounted : Obligations.ConfigAndEventsKeptResetsCounted := by
  intro i s t hexec
  obtain ⟨u, o, he, rfl⟩ := exec_effect hexec
  obtain ⟨head, hd⟩ := s.dequeue_frame
  cases he with
  | kept hreset => simp [hreset]
  | enqr v d =>
    obtain ⟨m, hm⟩ := State.pushTimes_frame (min d.toNat s.freeSlots.toNat) v s
    simp [hm]
  | tickFaults => simp [hd]
  | tickPlays p => simp [hd]
  | enq | edge | lvl | xdone | txf | clk | recheck | reset => simp

/-- `TXLOG` grows only in a successful tick, by the buffer of the handle it leaves (R36). -/
theorem State.after_txlog (s : State) {i : Instr} (hreset : i ≠ .reset) :
    (s.after i).txlog = s.txlog ++
      if i = .tick ∧ s.tickEnabled = true ∧ s.txf = false then [(s.after i).xbuf] else [] := by
  obtain ⟨u, o, he, ha⟩ := after_effect s i
  obtain ⟨head, hd⟩ := s.dequeue_frame
  rw [ha]
  cases he with
  | kept _ htick => simp +contextual [htick]
  | enqr v d =>
    obtain ⟨m, hm⟩ := State.pushTimes_frame (min d.toNat s.freeSlots.toNat) v s
    simp [hm]
  | tickFaults _ hf => simp [hd, hf]
  | tickPlays p ht hf => simp [hd, ht, hf]
  | enq | edge | lvl | xdone | txf | clk | recheck => simp
  | reset => exact absurd rfl hreset

/-- Settles O26, by induction on the sequence of operations. -/
theorem txlogRecordsEverySubmit : Obligations.TxlogRecordsEverySubmit := by
  intro s is hreset
  induction is generalizing s with
  | nil => simp [State.afterAll, State.submittedAlong]
  | cons i is ih =>
    obtain ⟨hi, his⟩ : .reset ≠ i ∧ .reset ∉ is := by simpa using hreset
    have hrest : ((s.after i).afterAll is).txlog = (s.after i).txlog ++ (s.after i).submittedAlong is := ih _ his
    simpa [State.afterAll, State.submittedAlong, s.after_txlog hi.symm] using hrest

end Sys2Proof.Machine
end

section
/-! Deadlines modulo 2^64 (R22) and the layout of `STATUS` (R41). -/

namespace Sys2Proof.Machine

/-! ## Deadlines -/

theorem due_iff_toInt_nonneg (c d : CycleWord) : due c d = true ↔ 0 ≤ (c - d).toInt := by
  rw [due_iff, BitVec.toInt_eq_toNat_cond]
  have := (c - d).isLt
  split <;> omega

/-- Settles O13: the difference from a deadline `k` cycles past is `k`, from one `k` ahead `2^64 - k`. -/
theorem dueDistinguishesPastFromFuture : Obligations.DueDistinguishesPastFromFuture := by
  refine ⟨fun c d => ⟨?_, due_iff_toInt_nonneg c d⟩, fun c k => ⟨fun hk => ?_, fun hk hk' => ?_⟩⟩
  · rw [due_iff, BitVec.toNat_sub]
    have := d.isLt
    omega
  · have hdiff : c - (c - BitVec.ofNat 64 k) = BitVec.ofNat 64 k := sub_sub_cancel c _
    rw [due_iff, hdiff, BitVec.toNat_ofNat]
    omega
  · have hdiff : c - (c + BitVec.ofNat 64 k) = -BitVec.ofNat 64 k := sub_add_cancel_left c _
    rw [← Bool.not_eq_true, due_iff, hdiff, BitVec.toNat_neg, BitVec.toNat_ofNat]
    omega

/-! ## The fields of `STATUS` -/

theorem getElem_flagAt (i j : Nat) (b : Bool) (hj : j < 16) : (flagAt i b)[j] = (decide (j = i) && b) := by
  rcases lt_trichotomy j i with h | rfl | h
  · simp [flagAt, h, h.ne]
  · simp [flagAt]
  · have hne : j - i ≠ 0 := by omega
    simp [flagAt, h.ne', hne, BitVec.getLsbD_ofBool]

theorem playbackBit_eq (p : PlaybackState) : playbackBit p = decide (p = .tone) := by cases p <;> rfl

theorem debounceBit_eq (d : DebounceState) : debounceBit d = decide (d = .pending) := by cases d <;> rfl

theorem bufferBit_eq (b : BufferId) : bufferBit b = decide (b = .wave) := by cases b <;> rfl

/-- The levels of the buttons that exist, bit by bit (R34): only bit 2 depends on `NBTN`. -/
theorem getElem_buttonLevels (cfg : Config) (m : BitVec 3) (i : Nat) (hi : i < 3) :
    (buttonLevels cfg m)[i] = (decide (i = 2 → cfg.buttons = .three) && m[i]) := by
  cases hb : cfg.buttons <;> interval_cases i <;> simp [buttonLevels, hb]

theorem State.tstall_iff (s : State) :
    s.tstall = true ↔
      s.fault = false ∧ (s.cycle - s.tickDl).toNat < 2 ^ 63 ∧ s.xvalid = true ∧ s.xdn = false := by
  simp [State.tstall, due, and_assoc]

theorem State.readReg_status_lt (s : State) : (s.readReg .status).toNat < 2 ^ 16 := by
  rw [State.readReg, BitVec.toNat_setWidth_of_le (by decide)]
  exact s.status.isLt

/-- The cause stands in bits 15:12: every other field of `STATUS` ends below bit 12. -/
theorem State.status_fcause (s : State) : s.status.extractLsb' 12 4 = s.fcause := by
  apply BitVec.eq_of_getElem_eq
  intro i hi
  interval_cases i <;> simp [State.status, getElem_flagAt]

/-- Settles O12: at each place only the field the spec puts there is shifted to. -/
theorem statusPacksItsFields : Obligations.StatusPacksItsFields := by
  intro s
  have hstall : s.status.getLsbD 11 = s.tstall := by simp [State.status, getElem_flagAt]
  refine ⟨?_, ?_, ?_, ?_, ?_, ?_, ?_, ?_, ?_, ?_, ?_, hstall ▸ s.tstall_iff, s.status_fcause,
      s.readReg_status_lt⟩ <;>
    simp [State.status, getElem_flagAt, getElem_buttonLevels, playbackBit_eq, debounceBit_eq, bufferBit_eq]

end Sys2Proof.Machine
end

section
/-! Words and samples in memory: the four bytes of an event word (R65), the two audio buffers and the sample
addresses (R63, R64, R123, R124). -/

namespace Sys2Proof.Machine

/-! ## The bytes of an event word -/

/-- A word is put together again from its four bytes: neighbouring byte fields join into one longer field. -/
@[simp] theorem wordOfBytes_extractLsb' (w : EventWord) :
    wordOfBytes (w.extractLsb' 0 8) (w.extractLsb' 8 8) (w.extractLsb' 16 8) (w.extractLsb' 24 8) = w := by
  have h16 : w.extractLsb' 24 8 ++ w.extractLsb' 16 8 = w.extractLsb' 16 16 :=
    BitVec.extractLsb'_append_extractLsb'_eq_extractLsb' rfl
  have h8 : w.extractLsb' 16 16 ++ w.extractLsb' 8 8 = w.extractLsb' 8 24 :=
    BitVec.extractLsb'_append_extractLsb'_eq_extractLsb' rfl
  have h0 : w.extractLsb' 8 24 ++ w.extractLsb' 0 8 = w.extractLsb' 0 32 :=
    BitVec.extractLsb'_append_extractLsb'_eq_extractLsb' rfl
  rw [wordOfBytes, h16, h8, h0, BitVec.extractLsb'_eq_self]

/-- Settles O7: the decoder takes the word's four bytes and puts the word together from them. -/
theorem serialisedWordDecodes : Obligations.SerialisedWordDecodes := by
  intro cfg w rest
  simp [bytesOfWord, decodeBytes]

/-! ## The two buffers -/

@[simp] theorem sampleRead_sil (cfg : Config) (idx : Nat) : sampleRead cfg .sil idx = 0#16 := rfl

theorem sampleRead_wave_left (cfg : Config) (x : Nat) :
    sampleRead cfg .wave (2 * x) = BitVec.ofInt 16 (sample 32 cfg.waveA cfg.waveP cfg.waveN x) := by
  have hframe : 2 * x / 2 = x := by omega
  simp only [sampleRead, hframe]

theorem sampleRead_wave_right (cfg : Config) (x : Nat) :
    sampleRead cfg .wave (2 * x + 1) = sampleRead cfg .wave (2 * x) := by
  have hframe : (2 * x + 1) / 2 = 2 * x / 2 := by omega
  simp only [sampleRead, hframe]

/-! ## Sample addresses -/

/-- Bit 5 of a sample address says whether the address is 32 or more; the bits below are the index (R63). -/
theorem sampleAt_ofNat (cfg : Config) {a : Nat} (ha : a < 64) :
    sampleAt cfg (BitVec.ofNat 6 a) = sampleRead cfg (if 32 ≤ a then .wave else .sil) (a % 32) := by
  have hbuf : (BitVec.ofNat 6 a).getLsbD 5 = decide (32 ≤ a) := by
    rw [BitVec.getLsbD_ofNat, Nat.testBit_eq_decide_div_mod_eq, Bool.eq_iff_iff]
    simp only [Bool.and_eq_true, decide_eq_true_eq]
    omega
  have hidx : ((BitVec.ofNat 6 a).extractLsb' 0 5).toNat = a % 32 := by
    rw [BitVec.extractLsb'_toNat, BitVec.toNat_ofNat, Nat.shiftRight_zero]
    omega
  simp only [sampleAt, hbuf, hidx, decide_eq_true_eq]

theorem sampleAt_below_32 (cfg : Config) {idx : Nat} (hidx : idx < 32) :
    sampleAt cfg (BitVec.ofNat 6 idx) = sampleRead cfg .sil idx := by
  rw [sampleAt_ofNat cfg (by omega), if_neg (by omega), Nat.mod_eq_of_lt hidx]

theorem sampleAt_from_32 (cfg : Config) {idx : Nat} (hidx : idx < 32) :
    sampleAt cfg (BitVec.ofNat 6 (32 + idx)) = sampleRead cfg .wave idx := by
  rw [sampleAt_ofNat cfg (by omega), if_pos (by omega), Nat.add_mod_left, Nat.mod_eq_of_lt hidx]

/-- Settles O53: a frame's two channels share the index `idx div 2`, and bit 5 of an address picks the buffer. -/
theorem buffersAreLaidOutAsStated : Obligations.BuffersAreLaidOutAsStated := fun cfg =>
  ⟨fun x _ => ⟨sampleRead_wave_left cfg x, sampleRead_wave_right cfg x⟩,
    fun idx _ => sampleRead_sil cfg idx,
    fun _ hidx => ⟨sampleAt_below_32 cfg hidx, sampleAt_from_32 cfg hidx⟩⟩

end Sys2Proof.Machine
end

section
/-! The fields of an event word under the opcode table's masks (R91, R92), what the decoder accepts and refuses
(R100, R101), and the statements of the encoding chapter. -/

namespace Sys2Proof

/-! ## Words that agree under a mask -/

theorem and_eq_and_iff (w v m : EventWord) :
    w &&& m = v &&& m ↔ ∀ i (_ : i < 32), m[i] = true → w[i] = v[i] := by
  refine ⟨fun h i hi hm => ?_, fun h => BitVec.eq_of_getElem_eq fun i hi => ?_⟩
  · simpa [hm] using congrArg (fun u : EventWord => u[i]) h
  · cases hm : m[i]
    · simp [hm]
    · simp [hm, h i hi hm]

theorem and_or_eq_and_or_iff (w v a b : EventWord) :
    w &&& (a ||| b) = v &&& (a ||| b) ↔ w &&& a = v &&& a ∧ w &&& b = v &&& b := by
  simp [and_eq_and_iff, or_imp, forall_and]

theorem and_or_eq_zero_iff (w a b : EventWord) :
    w &&& (a ||| b) = 0#32 ↔ w &&& a = 0#32 ∧ w &&& b = 0#32 := by
  simpa using and_or_eq_and_or_iff w 0#32 a b

/-- The word with ones in the `n` bits from bit `k` up and zeros elsewhere. -/
def fieldMask (k n : Nat) : EventWord := (BitVec.allOnes n).setWidth 32 <<< k

theorem getElem_fieldMask {k n i : Nat} (hi : i < 32) : (fieldMask k n)[i] = decide (k ≤ i ∧ i < k + n) := by
  rw [Bool.eq_iff_iff]
  simp only [fieldMask, BitVec.getElem_shiftLeft, BitVec.getElem_setWidth, BitVec.getLsbD_allOnes, Bool.and_eq_true,
    Bool.not_eq_true', decide_eq_false_iff_not, decide_eq_true_eq]
  omega

theorem and_fieldMask_eq_iff {k n : Nat} (hkn : k + n ≤ 32) (w v : EventWord) :
    w &&& fieldMask k n = v &&& fieldMask k n ↔ w.extractLsb' k n = v.extractLsb' k n := by
  rw [and_eq_and_iff]
  refine ⟨fun h => BitVec.eq_of_getElem_eq fun j hj => ?_, fun h i hi hm => ?_⟩
  · have hlt : k + j < 32 := by omega
    have hbit : w[k + j] = v[k + j] := h (k + j) hlt (by simp [getElem_fieldMask, hj])
    simpa [BitVec.getLsbD_eq_getElem hlt] using hbit
  · simp only [getElem_fieldMask, decide_eq_true_eq] at hm
    obtain ⟨j, rfl⟩ := Nat.exists_eq_add_of_le hm.1
    have hj : j < n := by omega
    simpa [hj, hi] using congrArg (·.getLsbD j) h

theorem and_fieldMask_eq_zero_iff {k n : Nat} (hkn : k + n ≤ 32) (w : EventWord) :
    w &&& fieldMask k n = 0#32 ↔ w.extractLsb' k n = 0#n := by
  simpa using and_fieldMask_eq_iff hkn w 0#32

theorem and_fieldMask_one_eq_iff {k : Nat} (hk : k < 32) (w v : EventWord) :
    w &&& fieldMask k 1 = v &&& fieldMask k 1 ↔ w[k] = v[k] := by
  rw [and_eq_and_iff]
  refine ⟨fun h => h k hk (by simp [getElem_fieldMask]), fun h i hi hm => ?_⟩
  obtain rfl : i = k := by
    simp only [getElem_fieldMask, decide_eq_true_eq] at hm
    omega
  exact h

/-! ## The fields of a row of the opcode table -/

/-- The bits of `W[27:0]` that an operation's format does not name (R92). -/
def Mnemonic.unnamedMask : Mnemonic → EventWord
  | .nop | .edge | .xdone | .tick | .recheck | .reset => fieldMask 0 28
  | .enq => fieldMask 17 11 ||| fieldMask 0 16
  | .enqr => fieldMask 17 11
  | .lvl => fieldMask 3 25
  | .txf => fieldMask 1 27
  | .clk => 0#32
  | .rd => fieldMask 4 24

/-- The bits that hold an operation's operands (R92, R93). -/
def Mnemonic.operandMask : Mnemonic → EventWord
  | .nop | .edge | .xdone | .tick | .recheck | .reset => 0#32
  | .enq => fieldMask 16 1
  | .enqr => fieldMask 16 1 ||| fieldMask 0 16
  | .lvl => fieldMask 0 3
  | .txf => fieldMask 0 1
  | .clk => fieldMask 0 28
  | .rd => fieldMask 0 4

theorem opcodeTable_mask_eq : ∀ row ∈ opcodeTable, row.mask = fieldMask 28 4 ||| row.name.unnamedMask := by decide

theorem opcodeTable_mask_or_operandMask :
    ∀ row ∈ opcodeTable, row.mask ||| row.name.operandMask = BitVec.allOnes 32 := by decide

/-- The match bits of a row are its opcode, with every unnamed bit 0. -/
theorem opcodeTable_bits : ∀ row ∈ opcodeTable, row.bits.extractLsb' 28 4 = row.op ∧
    row.bits &&& row.name.unnamedMask = 0#32 ∧ row.bits &&& row.mask = row.bits := by decide

theorem opcodeTable_name_inj :
    ∀ row ∈ opcodeTable, ∀ row' ∈ opcodeTable, row.name = row'.name → row = row' := by decide

theorem reservedOpcode_iff :
    ∀ op : BitVec 4, (∀ row ∈ opcodeTable, op ≠ row.op) ↔ op = 0xB#4 ∨ op = 0xC#4 ∨ op = 0xD#4 ∨ op = 0xE#4 := by
  decide

/-- A word with a row's opcode matches the row when every bit the row's format does not name is 0. -/
theorem and_mask_eq_bits_iff {row : OpcodeRow} (hrow : row ∈ opcodeTable) {w : EventWord}
    (hop : w.extractLsb' 28 4 = row.op) : w &&& row.mask = row.bits ↔ w &&& row.name.unnamedMask = 0#32 := by
  obtain ⟨hbop, hunnamed, hbits⟩ := opcodeTable_bits row hrow
  calc w &&& row.mask = row.bits
    _ ↔ w &&& row.mask = row.bits &&& row.mask := by rw [hbits]
    _ ↔ w.extractLsb' 28 4 = row.bits.extractLsb' 28 4 ∧
          w &&& row.name.unnamedMask = row.bits &&& row.name.unnamedMask := by
        rw [opcodeTable_mask_eq row hrow, and_or_eq_and_or_iff, and_fieldMask_eq_iff (by decide)]
    _ ↔ w &&& row.name.unnamedMask = 0#32 := by simp [hop, hbop, hunnamed]

/-! ## The operands (R93) -/

theorem SymbolState.ofBool_inj {a b : Bool} (h : SymbolState.ofBool a = SymbolState.ofBool b) : a = b := by
  revert a b
  decide

theorem RegName.ofNumber_eq_none_iff : ∀ n : BitVec 4, RegName.ofNumber n = none ↔ 8 ≤ n.toNat := by decide

theorem RegName.number_of_ofNumber {n : BitVec 4} {r : RegName} (h : RegName.ofNumber n = some r) : r.number = n := by
  simpa using List.find?_some h

theorem Instr.wellFormed_lvl_iff (cfg : Config) (m : BitVec 3) :
    (Instr.lvl m).wellFormed cfg = true ↔ ¬ (cfg.buttons = .two ∧ m.getLsbD 2 = true) := by
  cases h : cfg.buttons <;> simp [Instr.wellFormed, h]

theorem operandsOf_lvl_eq_ok_iff (cfg : Config) (w : EventWord) (i : Instr) :
    operandsOf cfg w .lvl = .ok i ↔
      i = .lvl (w.extractLsb' 0 3) ∧ (Instr.lvl (w.extractLsb' 0 3)).wellFormed cfg = true := by
  simp only [operandsOf]
  split <;> simp [*, eq_comm]

theorem operandsOf_rd_eq_ok_iff (cfg : Config) (w : EventWord) (i : Instr) :
    operandsOf cfg w .rd = .ok i ↔ ∃ r, RegName.ofNumber (w.extractLsb' 0 4) = some r ∧ i = .rd r := by
  simp only [operandsOf]
  split <;> simp [*, eq_comm]

/-- The operation whose operands are read is of the row asked for, well-formed, and its word holds those operands. -/
theorem encode_operandsOf {cfg : Config} {w : EventWord} {name : Mnemonic} {i : Instr}
    (h : operandsOf cfg w name = .ok i) :
    i.mnemonic = name ∧ i.wellFormed cfg = true ∧ encode i &&& name.operandMask = w &&& name.operandMask := by
  cases name with
  | nop | edge | xdone | tick | recheck | reset =>
    cases h
    exact ⟨rfl, rfl, by simp [Mnemonic.operandMask]⟩
  | enq =>
    cases h
    exact ⟨rfl, rfl, (and_fieldMask_one_eq_iff (by decide) ..).2 (SymbolState.ofBool_inj (encode_enq_symbol _))⟩
  | enqr =>
    cases h
    exact ⟨rfl, rfl, (and_or_eq_and_or_iff ..).2
      ⟨(and_fieldMask_one_eq_iff (by decide) ..).2 (SymbolState.ofBool_inj (encode_enqr_symbol ..)),
        (and_fieldMask_eq_iff (by decide) ..).2 (encode_enqr_duration ..)⟩⟩
  | lvl =>
    obtain ⟨rfl, hwf⟩ := (operandsOf_lvl_eq_ok_iff cfg w i).1 h
    exact ⟨rfl, hwf, (and_fieldMask_eq_iff (by decide) ..).2 (encode_lvl_levels _)⟩
  | txf =>
    cases h
    exact ⟨rfl, rfl, (and_fieldMask_one_eq_iff (by decide) ..).2 (encode_txf_condition _)⟩
  | clk =>
    cases h
    exact ⟨rfl, rfl, (and_fieldMask_eq_iff (by decide) ..).2 (encode_clk_cycles _)⟩
  | rd =>
    obtain ⟨r, hr, rfl⟩ := (operandsOf_rd_eq_ok_iff cfg w i).1 h
    exact ⟨rfl, rfl, (and_fieldMask_eq_iff (by decide) ..).2
      ((encode_rd_number r).trans (RegName.number_of_ofNumber hr))⟩

/-- Operands are refused only for the two extra conditions of R100. -/
theorem operandsOf_error_iff (cfg : Config) (w : EventWord) (name : Mnemonic) :
    (∃ e, operandsOf cfg w name = .error e) ↔
      (name = .lvl ∧ cfg.buttons = .two ∧ w.getLsbD 2 = true) ∨
      (name = .rd ∧ 8 ≤ (w.extractLsb' 0 4).toNat) := by
  cases name with
  | lvl =>
    have hwf := Instr.wellFormed_lvl_iff cfg (w.extractLsb' 0 3)
    simp only [operandsOf]
    split
    next h => simpa using hwf.1 h
    next h => simpa using not_imp_comm.1 hwf.2 h
  | rd =>
    rw [← RegName.ofNumber_eq_none_iff]
    cases h : RegName.ofNumber (w.extractLsb' 0 4) <;> simp [operandsOf, h]
  | nop | enq | enqr | edge | xdone | txf | clk | tick | recheck | reset => simp [operandsOf]

/-! ## What the decoder answers (R101) -/

theorem decode_of_op {row : OpcodeRow} (hrow : row ∈ opcodeTable) {w : EventWord}
    (hop : w.extractLsb' 28 4 = row.op) (cfg : Config) :
    decode cfg w = if w &&& row.mask = row.bits then operandsOf cfg w row.name else .error .unnamedBit := by
  simp only [decode, hop, opcodeTable_find?_op row hrow]

theorem decode_of_reservedOpcode {w : EventWord} (h : ∀ row ∈ opcodeTable, w.extractLsb' 28 4 ≠ row.op)
    (cfg : Config) : decode cfg w = .error .reservedOpcode := by
  have hnone : opcodeTable.find? (fun row => row.op == w.extractLsb' 28 4) = none := by
    simpa [List.find?_eq_none] using fun row hrow => (h row hrow).symm
  simp only [decode, hnone]

/-- An accepted word matches a row of the table, under which its operands are read. -/
theorem exists_row_of_decode_eq_ok {cfg : Config} {w : EventWord} {i : Instr} (h : decode cfg w = .ok i) :
    ∃ row ∈ opcodeTable, w &&& row.mask = row.bits ∧ operandsOf cfg w row.name = .ok i := by
  by_cases hop : ∃ row ∈ opcodeTable, w.extractLsb' 28 4 = row.op
  · obtain ⟨row, hrow, hop⟩ := hop
    rw [decode_of_op hrow hop] at h
    split at h
    next hmask => exact ⟨row, hrow, hmask, h⟩
    next => cases h
  · rw [decode_of_reservedOpcode (by simpa using hop)] at h
    cases h

/-- An accepted word and the word of its operation agree on the row's mask, and on the operands beside it. -/
theorem encode_of_decode {cfg : Config} {w : EventWord} {i : Instr} (h : decode cfg w = .ok i) :
    encode i = w ∧ i.wellFormed cfg = true := by
  obtain ⟨row, hrow, hmask, hops⟩ := exists_row_of_decode_eq_ok h
  obtain ⟨hname, hwf, hoperands⟩ := encode_operandsOf hops
  obtain ⟨row', hrow', hname', -, hmask'⟩ := encode_matches_row i
  obtain rfl : row' = row := opcodeTable_name_inj row' hrow' row hrow (hname'.trans hname)
  have hall : encode i &&& BitVec.allOnes 32 = w &&& BitVec.allOnes 32 := by
    rw [← opcodeTable_mask_or_operandMask row' hrow, and_or_eq_and_or_iff]
    exact ⟨hmask'.trans hmask.symm, hoperands⟩
  rw [BitVec.and_allOnes, BitVec.and_allOnes] at hall
  exact ⟨hall, hwf⟩

theorem decode_error_iff_of_op {row : OpcodeRow} (hrow : row ∈ opcodeTable) {w : EventWord}
    (hop : w.extractLsb' 28 4 = row.op) (cfg : Config) :
    (∃ e, decode cfg w = .error e) ↔
      w &&& row.name.unnamedMask ≠ 0#32 ∨ ∃ e, operandsOf cfg w row.name = .error e := by
  rw [decode_of_op hrow hop, ne_eq, ← and_mask_eq_bits_iff hrow hop]
  split
  next hmask => simp [hmask]
  next hmask => simp [hmask]

/-- A word is refused for its opcode, for a bit its row does not name, or for its operands. -/
theorem decode_error_iff (cfg : Config) (w : EventWord) :
    (∃ e, decode cfg w = .error e) ↔
      (∀ row ∈ opcodeTable, w.extractLsb' 28 4 ≠ row.op) ∨
      ∃ row ∈ opcodeTable, w.extractLsb' 28 4 = row.op ∧
        (w &&& row.name.unnamedMask ≠ 0#32 ∨ ∃ e, operandsOf cfg w row.name = .error e) := by
  constructor
  · intro herr
    by_cases hop : ∃ row ∈ opcodeTable, w.extractLsb' 28 4 = row.op
    · obtain ⟨row, hrow, hop⟩ := hop
      exact .inr ⟨row, hrow, hop, (decode_error_iff_of_op hrow hop cfg).1 herr⟩
    · exact .inl (by simpa using hop)
  · rintro (hreserved | ⟨row, hrow, hop, herr⟩)
    · exact ⟨_, decode_of_reservedOpcode hreserved cfg⟩
    · exact (decode_error_iff_of_op hrow hop cfg).2 herr

end Sys2Proof

namespace Sys2Proof.Machine

/-! ## A step on the next waiting word (R94, R100) -/

theorem step_of_decode_ok {s : State} {w : EventWord} {rest : List EventWord} {i : Instr}
    (hevents : s.events = w :: rest) (hdec : decode s.cfg w = .ok i) :
    step s = exec i { s with events := rest } := by
  simp [step, State.takeEvent, hevents, hdec]

theorem step_of_decode_error {s : State} {w : EventWord} {rest : List EventWord} {e : Illegal}
    (hevents : s.events = w :: rest) (hdec : decode s.cfg w = .error e) :
    step s = .next ({ s with events := rest } : State).refuseWord := by
  simp [step, State.takeEvent, hevents, hdec]

/-! ## The statements -/

/-- Settles O3: the encoder's word matches the operation's row, whose operand fields give the operands back. -/
theorem decodeOfEncodeIsIdentity : Obligations.DecodeOfEncodeIsIdentity := fun _ _ hwf => decode_encode hwf

/-- Settles O4: each bit of an accepted word is fixed by its row's mask or by an operand. -/
theorem encodeOfDecodeIsIdentity : Obligations.EncodeOfDecodeIsIdentity := fun _ _ _ hdec => encode_of_decode hdec

/-- Settles O5: R100's conditions are the ways a row of the table refuses a word, gathered by opcode. -/
theorem illegalWordsAreExactlyThese : Obligations.IllegalWordsAreExactlyThese := by
  refine ⟨fun cfg w => ?_, fun s w rest hevents ⟨e, hdec⟩ => step_of_decode_error hevents hdec⟩
  rw [decode_error_iff, reservedOpcode_iff]
  refine or_congr_right ?_
  -- One disjunct per row of the table, then R100's condition for that row; the statement orders them its own way.
  simp only [opcodeTable, List.mem_cons, List.not_mem_nil, or_false, exists_eq_or_imp, exists_eq_left]
  simp only [Mnemonic.unnamedMask, ne_eq, and_or_eq_zero_iff, not_and_or, and_fieldMask_eq_zero_iff, Nat.reduceAdd,
    Nat.reduceLeDiff, BitVec.and_zero, not_true_eq_false, operandsOf_error_iff, reduceCtorEq, true_and, false_and,
    or_false, false_or, and_false, or_and_right]
  apply Iff.of_eq
  ac_rfl

/-- Settles O6: each word is the encoder's word of the operation it spells. -/
theorem spelledWordsDecode : Obligations.SpelledWordsDecode :=
  ⟨decode_encode (i := .enq .tone) rfl, decode_encode (i := .enqr .tone 3#16) rfl, decode_encode (i := .edge) rfl,
    decode_encode (i := .lvl 2#3) rfl, decode_encode (i := .txf true) rfl, decode_encode (i := .clk 5000000#28) rfl,
    decode_encode (i := .tick) rfl, decode_encode (i := .rd .status) rfl⟩

/-- Settles O8: the step takes the first waiting word and performs what it decodes to. -/
theorem stepRunsDecodedEvent : Obligations.StepRunsDecodedEvent := fun _ _ _ _ => step_of_decode_ok

end Sys2Proof.Machine
end

section
/-! The waveform table (40_waveform_table.md): the integer generator computes the printed formula (R121, R127); its
samples are bounded and periodic (R125). -/

namespace Sys2Proof

/-- R122's constraints on the parameters of the generator. -/
theorem Config.wellFormed_iff (cfg : Config) :
    cfg.wellFormed = true ↔ 1 ≤ cfg.waveA ∧ cfg.waveA ≤ 65535 ∧ 1 ≤ cfg.waveN := by
  simp [Config.wellFormed, and_assoc]

end Sys2Proof

namespace Sys2Proof.Machine

/-! ## The generator's phase -/

/-- `t(x)` times `L`, before the reduction modulo `2A`: the integer whose remainder the generator takes. -/
def wavePhase (L A : Nat) (P : Int) (N x : Nat) : Int := 4 * N * A * (x + P) + A * L

theorem sample_eq (L A : Nat) (P : Int) (N x : Nat) :
    sample L A P N x = (A * L - 2 * |wavePhase L A P N x % (2 * A * L) - A * L|) / (2 * L) := by
  simp only [sample, wavePhase, Int.natCast_natAbs]

/-! ## The printed formula, exactly (R121, R122, R127) -/

/-- The rational `t(x)` is the integer phase over `L`. -/
theorem waveT_eq {L N : Nat} (hL : 0 < L) (hN : 0 < N) (A : Nat) (P : Int) (x : Nat) :
    waveT L A P N x = wavePhase L A P N x / L := by
  have hL' : (L : Rat) ≠ 0 := by positivity
  have hN' : (N : Rat) ≠ 0 := by positivity
  rw [waveT, wavePhase]
  push_cast
  field_simp
  ring

/-- Reducing a fraction modulo `m` is reducing its numerator modulo `m` times the denominator. -/
theorem ratMod_div (z : Int) (m : Nat) {d : Nat} (hd : 0 < d) :
    ratMod (z / d) m = (z % (m * d : Nat) : Int) / d := by
  have hd' : (d : Rat) ≠ 0 := by positivity
  have hquot : ((z : Rat) / d / m).floor = z / (m * d : Nat) := by
    rw [div_div, mul_comm, ← Nat.cast_mul]
    exact Rat.floor_intCast_div_natCast z (m * d)
  rw [ratMod, hquot, Int.emod_def]
  push_cast
  field_simp

/-- Over the common denominator `2L` the formula is one quotient of integers, which is rounded down once. The buffer
length need not be even, nor the amplitude in range. -/
theorem sample_eq_sampleExact {L N : Nat} (hL : 0 < L) (hN : 0 < N) (A : Nat) (P : Int) (x : Nat) :
    sample L A P N x = sampleExact L A P N x := by
  have hL' : (0 : Rat) < L := by positivity
  have hmod : ratMod (waveT L A P N x) (2 * A) = (wavePhase L A P N x % (2 * A * L) : Int) / L := by
    rw [waveT_eq hL hN]
    exact_mod_cast ratMod_div (wavePhase L A P N x) (2 * A) hL
  generalize hm : wavePhase L A P N x % (2 * A * L) = m at hmod
  have habs : |(m : Rat) / L - A| = |(m : Rat) - A * L| / L := by
    rw [div_sub' hL'.ne', abs_div, abs_of_pos hL', mul_comm]
  have hfrac : (A : Rat) - |(m : Rat) / L - A| - A / 2 =
      (A * L - 2 * |m - A * L| : Int) / (2 * L : Nat) := by
    rw [habs]
    push_cast
    field_simp
    ring
  rw [sampleExact, hmod, hfrac, sample_eq, hm]
  exact_mod_cast (Rat.floor_intCast_div_natCast _ _).symm

/-- Settles O50: a buffer of two samples or more has a positive length, which is all the argument asks of it. -/
theorem sampleEqualsExactFormula : Obligations.SampleEqualsExactFormula :=
  fun _ A P _ x hL _ _ _ hN => sample_eq_sampleExact (Nat.zero_lt_of_lt hL) hN A P x

/-! ## Bounds (R125(a)) -/

/-- The remainder lies between `0` and `2AL`, so its distance to the middle `AL` is at most `AL`. -/
theorem sample_bounds {L A : Nat} (hL : 0 < L) (hA : 0 < A) (P : Int) (N x : Nat) :
    (-(A : Int)) / 2 ≤ sample L A P N x ∧ sample L A P N x ≤ (A : Int) / 2 := by
  have hpos : (0 : Int) < 2 * A * L := by positivity
  have hlow := Int.emod_nonneg (wavePhase L A P N x) hpos.ne'
  have hhigh := Int.emod_lt_of_pos (wavePhase L A P N x) hpos
  have hdist : |wavePhase L A P N x % (2 * A * L) - A * L| ≤ A * L := by
    rw [abs_le]
    constructor <;> linarith
  have hdist0 := abs_nonneg (wavePhase L A P N x % (2 * A * L) - A * L)
  have hL2 : (0 : Int) < 2 * L := by positivity
  have hscale (a : Int) : a / 2 = a * L / (2 * L) := (Int.mul_ediv_mul_of_pos_left a 2 (by positivity)).symm
  rw [sample_eq, hscale, hscale]
  exact ⟨Int.ediv_le_ediv hL2 (by linarith), Int.ediv_le_ediv hL2 (by linarith)⟩

/-- Settles O51: the bounds of an amplitude up to 65535 lie within the range of a 16-bit word. -/
theorem samplesAreBounded : Obligations.SamplesAreBounded := by
  intro cfg x hwf
  obtain ⟨hA, hA', -⟩ := cfg.wellFormed_iff.1 hwf
  obtain ⟨hlow, hhigh⟩ := sample_bounds (L := 32) (by decide) hA cfg.waveP cfg.waveN x
  refine ⟨hlow, hhigh, ?_⟩
  rw [sampleRead_wave_left]
  exact BitVec.toInt_ofInt_eq_self (by decide) (by omega) (by omega)

/-! ## Periodicity (R125(c)) -/

/-- A period of `k` frames, where the buffer's `L / 2` frames hold `N` of them, adds the modulus to the phase. -/
theorem wavePhase_add_period {L N k : Nat} (hk : 2 * (N * k) = L) (A : Nat) (P : Int) (x : Nat) :
    wavePhase L A P N (x + k) = wavePhase L A P N x + 2 * A * L := by
  subst hk
  simp only [wavePhase]
  push_cast
  ring

theorem sample_add_period {L N k : Nat} (hk : 2 * (N * k) = L) (A : Nat) (P : Int) (x : Nat) :
    sample L A P N (x + k) = sample L A P N x := by
  rw [sample_eq, wavePhase_add_period hk, Int.add_emod_right, ← sample_eq]

/-- Settles O52: `N` periods of `16 / N` frames fill the buffer's 16 frames. -/
theorem samplesArePeriodic : Obligations.SamplesArePeriodic := by
  intro A P N x _ hN
  exact sample_add_period (by rw [Nat.mul_div_cancel' (Nat.dvd_of_mod_eq_zero hN)]) A P x

end Sys2Proof.Machine
end

section
/-! The queue's cells, cursors and content after enqueues and a dequeue (R141 to R144). -/

namespace Sys2Proof.Machine

/-! ## Updates that leave the queue alone -/

@[simp] theorem State.freeSlots_answer (s : State) (o : EventOutcome) : (s.answer o).freeSlots = s.freeSlots := rfl

section
variable (s : State)

@[simp] theorem State.length_queueContents : s.queueContents.length = s.qcount.toNat := by
  simp [State.queueContents]

@[simp] theorem State.queueContents_answer (o : EventOutcome) :
    (s.answer o).queueContents = s.queueContents := rfl
@[simp] theorem State.queueContents_raiseFault (c : FaultCause) :
    (s.raiseFault c).queueContents = s.queueContents := rfl
@[simp] theorem State.queueContents_consumeHandle : s.consumeHandle.queueContents = s.queueContents := rfl
@[simp] theorem State.queueContents_submit (b : BufferId) : (s.submit b).queueContents = s.queueContents := rfl
@[simp] theorem State.queueContents_showPlayback (p : PlaybackState) :
    (s.showPlayback p).queueContents = s.queueContents := rfl
@[simp] theorem State.queueContents_reschedule : s.reschedule.queueContents = s.queueContents := rfl
@[simp] theorem State.queueContents_confirmTransfer : s.confirmTransfer.queueContents = s.queueContents := rfl
@[simp] theorem State.queueContents_armRecheck : s.armRecheck.queueContents = s.queueContents := rfl
@[simp] theorem State.queueContents_finishRecheck (v : SpeedWord) :
    (s.finishRecheck v).queueContents = s.queueContents := rfl
@[simp] theorem State.queueContents_setLevels (m : BitVec 3) : (s.setLevels m).queueContents = s.queueContents := rfl
@[simp] theorem State.queueContents_setTxCondition (f : Bool) :
    (s.setTxCondition f).queueContents = s.queueContents := rfl
@[simp] theorem State.queueContents_elapse (n : BitVec 28) : (s.elapse n).queueContents = s.queueContents := rfl

end

/-! ## One accepted enqueue and one dequeue -/

theorem State.queueFull_eq_false_iff (s : State) : s.queueFull = false ↔ s.qcount.toNat ≠ Config.qcap := by
  rw [← Bool.not_eq_true, s.queueFull_iff]

/-- An accepted enqueue stores its symbol in the cell `QTAIL` points at, and in no other (R142). -/
theorem State.readCell_push (s : State) (v : SymbolState) (a : Nat) :
    (s.push v).readCell a = if a = cellOf s.qtail then v else s.readCell a := by
  have hcell : (s.push v).readCell a = (s.writeCell (cellOf s.qtail) v).readCell a := State.readCell_congr rfl rfl a
  split
  · next heq => rw [hcell, heq, State.readCell_writeCell_same]
  · next hne => rw [hcell, State.readCell_writeCell_other s hne]

/-- Below capacity the new cell is none of the occupied ones, so the content grows at its back (R141, R142). -/
theorem State.queueContents_push (s : State) (v : SymbolState) (hroom : s.qcount.toNat < Config.qcap) :
    (s.push v).queueContents = s.queueContents ++ [v] := by
  simp only [State.queueContents, s.qcount_push v hroom, State.push_qhead, State.readCell_push, s.cellOf_qtail,
    List.range_succ, List.map_append, List.map_singleton, if_true]
  congr 1
  refine List.map_congr_left fun k hk => if_neg ?_
  have hk : k < s.qcount.toNat := List.mem_range.1 hk
  simp only [Config.qcap] at hroom ⊢
  omega

/-- Releasing an entry takes it off the front of the content (R141, R143). -/
theorem State.queueContents_eq_cons (s : State) (hne : s.queueEmpty = false) :
    s.queueContents = s.readCell (cellOf s.qhead) :: s.release.queueContents := by
  have hcount : s.qcount.toNat = s.release.qcount.toNat + 1 :=
    (s.qcount_release fun h => by simp [s.queueEmpty_iff.2 h] at hne).symm
  have hcell (k : Nat) : (s.release.qhead.toNat + k) % Config.qcap = (s.qhead.toNat + (k + 1)) % Config.qcap := by
    simp only [State.release_qhead, BitVec.toNat_add, BitVec.toNat_ofNat, Config.qcap]
    omega
  have hread (a : Nat) : s.release.readCell a = s.readCell a := State.readCell_congr rfl rfl a
  simp only [State.queueContents, hcount, List.range_succ_eq_map, List.map_cons, List.map_map, hcell, hread]
  rfl

/-- `dequeue()` takes the oldest entry, if there is one (R143). -/
theorem State.queueContents_dequeue (s : State) :
    s.queueContents = s.dequeue.1.toList ++ s.dequeue.2.queueContents := by
  rcases s.dequeue_cases with ⟨-, h⟩ | ⟨hne, h⟩ <;> rw [h]
  · simp
  · simpa using s.queueContents_eq_cons hne

theorem State.qcount_dequeue_le (s : State) : s.dequeue.2.qcount.toNat ≤ s.qcount.toNat := by
  have hlength := congrArg List.length s.queueContents_dequeue
  simp only [List.length_append, State.length_queueContents] at hlength
  omega

/-! ## Runs of accepted enqueues (R144) -/

theorem State.pushTimes_add (m n : Nat) (v : SymbolState) (s : State) :
    State.pushTimes (m + n) v s = State.pushTimes n v (State.pushTimes m v s) := by
  induction m generalizing s with
  | zero => simp [State.pushTimes]
  | succ m ih =>
    rw [Nat.add_right_comm]
    exact ih (s.push v)

theorem State.pushTimes_succ (n : Nat) (v : SymbolState) (s : State) :
    State.pushTimes (n + 1) v s = (State.pushTimes n v s).push v := State.pushTimes_add n 1 v s

/-- Enqueues do not read the recorded outcome. -/
theorem State.pushTimes_answer (n : Nat) (v : SymbolState) (s : State) (o : EventOutcome) :
    State.pushTimes n v (s.answer o) = (State.pushTimes n v s).answer o := by
  induction n generalizing s with
  | zero => rfl
  | succ n ih => exact ih (s.push v)

@[simp] theorem State.pushTimes_qtail (n : Nat) (v : SymbolState) (s : State) :
    (State.pushTimes n v s).qtail = s.qtail + BitVec.ofNat 9 n := by
  obtain ⟨m, hm⟩ := State.pushTimes_frame n v s
  rw [hm]

@[simp] theorem State.pushTimes_qhead (n : Nat) (v : SymbolState) (s : State) :
    (State.pushTimes n v s).qhead = s.qhead := by
  obtain ⟨m, hm⟩ := State.pushTimes_frame n v s
  rw [hm]

@[simp] theorem State.pushTimes_fault (n : Nat) (v : SymbolState) (s : State) :
    (State.pushTimes n v s).fault = s.fault := by
  obtain ⟨m, hm⟩ := State.pushTimes_frame n v s
  rw [hm]

/-- `n` enqueues store in the `n` cells from `QTAIL` on, and in no other. -/
theorem State.readCell_pushTimes (n : Nat) (v : SymbolState) (s : State) (a : Nat) :
    (State.pushTimes n v s).readCell a =
      if ∃ k < n, a = (s.qtail.toNat + k) % Config.qcap then v else s.readCell a := by
  induction n with
  | zero => simp [State.pushTimes]
  | succ n ih =>
    have hcell : cellOf (State.pushTimes n v s).qtail = (s.qtail.toNat + n) % Config.qcap := by
      simp only [cellOf, State.pushTimes_qtail, BitVec.toNat_add, BitVec.toNat_ofNat, Config.qcap]
      omega
    rw [State.pushTimes_succ, State.readCell_push, hcell, ih]
    by_cases hnew : a = (s.qtail.toNat + n) % Config.qcap
    · rw [if_pos hnew, if_pos ⟨n, n.lt_succ_self, hnew⟩]
    · simp only [Nat.exists_lt_succ_right, hnew, or_false, if_false]

theorem State.qcount_pushTimes (n : Nat) (v : SymbolState) (s : State)
    (hroom : s.qcount.toNat + n ≤ Config.qcap) : (State.pushTimes n v s).qcount.toNat = s.qcount.toNat + n := by
  induction n with
  | zero => rfl
  | succ n ih =>
    have hcount := ih (by omega)
    rw [State.pushTimes_succ, State.qcount_push _ v (by omega), hcount, Nat.add_assoc]

theorem State.queueContents_pushTimes (n : Nat) (v : SymbolState) (s : State)
    (hroom : s.qcount.toNat + n ≤ Config.qcap) :
    (State.pushTimes n v s).queueContents = s.queueContents ++ List.replicate n v := by
  induction n with
  | zero => simp [State.pushTimes]
  | succ n ih =>
    have hcount := s.qcount_pushTimes n v (by omega)
    rw [State.pushTimes_succ, State.queueContents_push _ v (by omega), ih (by omega), List.append_assoc,
      List.replicate_succ']

/-- The queue is full where no slot is free, also outside the occupancy invariant. -/
theorem State.queueFull_iff_freeSlots (s : State) : s.queueFull = true ↔ s.freeSlots.toNat = 0 := by
  have hlt := s.qcount.isLt
  rw [State.queueFull_iff, State.freeSlots, BitVec.toNat_sub, BitVec.toNat_ofNat]
  simp only [Config.qcap]
  omega

/-- Each accepted enqueue uses one free slot, also outside the occupancy invariant. -/
theorem State.freeSlots_pushTimes {n : Nat} (v : SymbolState) (s : State) (hn : n ≤ s.freeSlots.toNat) :
    (State.pushTimes n v s).freeSlots.toNat = s.freeSlots.toNat - n := by
  have hsub : (State.pushTimes n v s).freeSlots = s.freeSlots - BitVec.ofNat 9 n := by
    simp only [State.freeSlots, State.qcount, State.pushTimes_qtail, State.pushTimes_qhead]
    ring
  have hlt := s.freeSlots.isLt
  rw [hsub, BitVec.toNat_sub, BitVec.toNat_ofNat]
  omega

end Sys2Proof.Machine
end

section
/-! The Symbol Queue's statements (41_symbol_queue.md): first in, first out (R146), `ENQ` (R142), `ENQR` (R144) and
overflow (R145). -/

namespace Sys2Proof.Machine

/-! ## First in, first out (R146) -/

theorem State.accepts_enq (v : SymbolState) (s : State) :
    s.accepts (.enq v) = if s.fault = false ∧ s.queueFull = false then [v] else [] := by
  rcases after_enq_cases v s with ⟨hf, ha⟩ | ⟨-, hfull, ha⟩ | ⟨hf, hfull, ha⟩
  · simp [State.accepts, ha, hf]
  · simp [State.accepts, ha, hfull]
  · simp [State.accepts, ha, hf, hfull]

theorem State.queueContents_after_enq {s : State} (h : s.qcount.toNat ≤ Config.qcap) (v : SymbolState) :
    (s.after (.enq v)).queueContents = s.queueContents ++ s.accepts (.enq v) := by
  rw [State.accepts_enq]
  rcases after_enq_cases v s with ⟨hf, ha⟩ | ⟨-, hfull, ha⟩ | ⟨hf, hfull, ha⟩
  · simp [ha, hf]
  · simp [ha, hfull]
  · have hroom : s.qcount.toNat < Config.qcap := h.lt_of_ne (s.queueFull_eq_false_iff.1 hfull)
    simp [ha, hf, hfull, s.queueContents_push v hroom]

theorem State.queueContents_after_enqr {s : State} (h : s.qcount.toNat ≤ Config.qcap) (v : SymbolState)
    (d : BitVec 16) : (s.after (.enqr v d)).queueContents = s.queueContents ++ s.accepts (.enqr v d) := by
  rcases after_enqr_cases v d s with ⟨-, ha⟩ | ⟨-, ha⟩
  · simp [State.accepts, ha]
  · have hfree := s.freeSlots_toNat h
    simp [State.accepts, ha, s.queueContents_pushTimes (min d.toNat s.freeSlots.toNat) v (by omega)]

theorem State.dequeues_tick (s : State) :
    s.dequeues .tick = if s.tickEnabled then s.dequeue.1.toList else [] := by
  rcases s.dequeue_cases with ⟨hq, h⟩ | ⟨hq, h⟩ <;> simp [State.dequeues, hq, h]

/-- A tick, whether it plays or faults, takes off the queue the entry it dequeues (R143, R162, R243). -/
theorem State.queueContents_tick (s : State) :
    s.queueContents = s.dequeues .tick ++ (s.after .tick).queueContents := by
  obtain ⟨u, o, he, ha⟩ := after_effect s .tick
  rw [State.dequeues_tick, ha, State.queueContents_answer]
  cases he with
  | kept _ ht => simp [ht]
  | tickFaults ht => simpa [ht] using s.queueContents_dequeue
  | tickPlays p ht => simpa [ht] using s.queueContents_dequeue

/-- One operation: the entries held before and those it accepts are those it dequeues and those held after. -/
theorem State.queue_conserved_by_op {s : State} (h : s.qcount.toNat ≤ Config.qcap) {i : Instr} (hreset : i ≠ .reset) :
    s.queueContents ++ s.accepts i = s.dequeues i ++ (s.after i).queueContents := by
  obtain ⟨u, o, he, ha⟩ := after_effect s i
  cases i with
  | enq v => simp [State.queueContents_after_enq h, State.dequeues]
  | enqr v d => simp [State.queueContents_after_enqr h, State.dequeues]
  | tick => simpa [State.accepts] using s.queueContents_tick
  | reset => exact absurd rfl hreset
  | nop | edge | lvl | xdone | txf | clk | recheck | rd =>
    have hkept : u.queueContents = s.queueContents := by cases he <;> simp
    simp [State.accepts, State.dequeues, ha, hkept]

/-- Every operation keeps the occupancy within the capacity (I-c of R39). -/
theorem State.qcount_after_le {s : State} (h : s.qcount.toNat ≤ Config.qcap) (i : Instr) :
    (s.after i).qcount.toNat ≤ Config.qcap := by
  obtain ⟨u, o, he, ha⟩ := after_effect s i
  suffices hu : u.qcount.toNat ≤ Config.qcap by rw [ha]; exact hu
  cases he with
  | enq v hfull =>
    have hroom : s.qcount.toNat < Config.qcap := h.lt_of_ne (s.queueFull_eq_false_iff.1 hfull)
    rw [s.qcount_push v hroom]
    exact hroom
  | enqr v d =>
    have hfree := s.freeSlots_toNat h
    rw [State.qcount_pushTimes _ v s (by omega)]
    omega
  | tickFaults | tickPlays => exact s.qcount_dequeue_le.trans h
  | kept | edge | lvl | xdone | txf | clk | recheck => exact h
  | reset => simp [State.qcount]

/-- Settles O20, by induction on the sequence: each operation conserves the entries and keeps the occupancy. -/
theorem queueIsFirstInFirstOut : Obligations.QueueIsFirstInFirstOut := by
  intro s is h hreset
  induction is generalizing s with
  | nil => simp [State.acceptedAlong, State.dequeuedAlong, State.afterAll]
  | cons i is ih =>
    obtain ⟨hi, his⟩ : .reset ≠ i ∧ .reset ∉ is := by simpa using hreset
    calc s.queueContents ++ (s.accepts i ++ (s.after i).acceptedAlong is)
        = s.dequeues i ++ ((s.after i).queueContents ++ (s.after i).acceptedAlong is) := by
          rw [← List.append_assoc, State.queue_conserved_by_op h hi.symm, List.append_assoc]
      _ = (s.dequeues i ++ (s.after i).dequeuedAlong is) ++ ((s.after i).afterAll is).queueContents := by
          rw [ih _ (State.qcount_after_le h i) his, List.append_assoc]

/-! ## `ENQ` (R142) -/

/-- An operation legal in every configuration is spelled by the encoder's word. -/
theorem spells_encode {i : Instr} (h : ∀ cfg, i.wellFormed cfg = true) : Spells (encode i) i (agentOf i) :=
  ⟨fun cfg => decode_encode (h cfg), rfl⟩

/-- Settles O16: the three cases of `ENQ`, with the cells after an accepted enqueue. -/
theorem enqStoresDropsOrHalts : Obligations.EnqStoresDropsOrHalts := by
  refine ⟨spells_encode (i := .enq .silence) fun _ => rfl, spells_encode (i := .enq .tone) fun _ => rfl, fun v s => ?_⟩
  simp only [exec_eq_after, Host.Outcome.next.injEq]
  rcases after_enq_cases v s with ⟨hf, ha⟩ | ⟨hf, hq, ha⟩ | ⟨hf, hq, ha⟩
  · exact ⟨by simp [hf], by simp [hf], fun _ => ha⟩
  · exact ⟨fun _ hne => absurd (s.queueFull_iff.1 hq) hne, fun _ _ => ha, by simp [hf]⟩
  · exact ⟨fun _ _ => ⟨_, ha, (s.readCell_push v _).trans (if_pos rfl),
      fun a hother => (s.readCell_push v a).trans (if_neg hother), rfl, rfl, rfl⟩,
      fun _ hcap => absurd hcap (s.queueFull_eq_false_iff.1 hq), by simp [hf]⟩

/-! ## `ENQR` (R144) -/

theorem after_enqr_of_fault {s : State} (hf : s.fault = true) (v : SymbolState) (d : BitVec 16) :
    s.after (.enqr v d) = s.answer .halted := by
  rcases after_enqr_cases v d s with ⟨-, ha⟩ | ⟨hf', -⟩
  · exact ha
  · simp [hf] at hf'

theorem after_enqr_of_no_fault {s : State} (hf : s.fault = false) (v : SymbolState) (d : BitVec 16) :
    s.after (.enqr v d) = (State.pushTimes (min d.toNat s.freeSlots.toNat) v s).answer
      (.ok (.counts (min d.toNat s.freeSlots.toNat) (d.toNat - min d.toNat s.freeSlots.toNat))) := by
  rcases after_enqr_cases v d s with ⟨hf', -⟩ | ⟨-, ha⟩
  · simp [hf] at hf'
  · exact ha

/-- The state but for the recorded outcome: `ENQ` and `ENQR` answer in different forms (R142, R144). -/
def State.forgetResult (s : State) : State := { s with result := none }

@[simp] theorem State.forgetResult_answer (s : State) (o : EventOutcome) :
    (s.answer o).forgetResult = s.forgetResult := rfl

/-- `n` attempts one after the other store as many symbols as there are free slots, in any state without a fault. -/
theorem State.replicate_enq (v : SymbolState) (n : Nat) {s : State} (hf : s.fault = false) :
    (s.afterAll (List.replicate n (.enq v))).forgetResult =
      (State.pushTimes (min n s.freeSlots.toNat) v s).forgetResult ∧
    s.acceptedAlong (List.replicate n (.enq v)) = List.replicate (min n s.freeSlots.toNat) v := by
  induction n generalizing s with
  | zero => simp [State.afterAll, State.acceptedAlong, State.pushTimes]
  | succ n ih =>
    rw [List.replicate_succ, State.acceptedAlong, State.afterAll, List.foldl_cons, State.accepts_enq]
    rcases after_enq_cases v s with ⟨hf', -⟩ | ⟨-, hfull, ha⟩ | ⟨-, hfull, ha⟩
    · simp [hf] at hf'
    · have hfree : s.freeSlots.toNat = 0 := s.queueFull_iff_freeSlots.1 hfull
      obtain ⟨hafter, hacc⟩ := ih (s := s.answer (.ok .full)) hf
      rw [ha, hacc]
      exact ⟨hafter.trans (by simp [hfree, State.pushTimes]), by simp [hfree, hfull]⟩
    · have hfree : s.freeSlots.toNat ≠ 0 := fun h => by simp [s.queueFull_iff_freeSlots.2 h] at hfull
      have hpush : (s.push v).freeSlots.toNat = s.freeSlots.toNat - 1 :=
        s.freeSlots_pushTimes (n := 1) v (by omega)
      have hmin : min (n + 1) s.freeSlots.toNat = min n (s.push v).freeSlots.toNat + 1 := by omega
      obtain ⟨hafter, hacc⟩ := ih (s := (s.push v).answer (.ok .accepted)) hf
      rw [ha, hacc, hmin]
      exact ⟨hafter.trans (by simp [State.pushTimes_answer, State.pushTimes]),
        by simp [hf, hfull, List.replicate_succ]⟩

/-- A burst may be split where `a` of its attempts have been made. -/
theorem State.after_enqr_split (v : SymbolState) {a d : BitVec 16} (had : a.toNat ≤ d.toNat) (s : State) :
    (s.after (.enqr v d)).forgetResult = ((s.after (.enqr v a)).after (.enqr v (d - a))).forgetResult := by
  cases hf : s.fault with
  | true =>
    have hhalted : (s.answer .halted).fault = true := hf
    simp [after_enqr_of_fault hf, after_enqr_of_fault hhalted]
  | false =>
    have hfree := s.freeSlots_pushTimes v (Nat.min_le_right a.toNat s.freeSlots.toNat)
    have hsub : (d - a).toNat = d.toNat - a.toNat := BitVec.toNat_sub_of_le had
    have hsum : min d.toNat s.freeSlots.toNat =
        min a.toNat s.freeSlots.toNat +
          min (d - a).toNat (State.pushTimes (min a.toNat s.freeSlots.toNat) v s).freeSlots.toNat := by
      omega
    rw [after_enqr_of_no_fault hf v d, after_enqr_of_no_fault hf v a, after_enqr_of_no_fault (by simpa using hf),
      State.pushTimes_answer, State.freeSlots_answer, ← State.pushTimes_add, ← hsum]
    rfl

theorem spells_enqr (d : BitVec 16) : Spells (0x20000000#32 ||| d.setWidth 32) (.enqr .silence d) .producer ∧
    Spells (0x20010000#32 ||| d.setWidth 32) (.enqr .tone d) .producer :=
  ⟨spells_encode (i := .enqr .silence d) fun _ => rfl, spells_encode (i := .enqr .tone d) fun _ => rfl⟩

/-- Settles O17: both sides store as many symbols as there are free slots among the `d` attempts. -/
theorem enqrEqualsRepeatedEnq : Obligations.EnqrEqualsRepeatedEnq := by
  refine ⟨spells_enqr, fun v d s => ⟨fun hf => ?_, fun hf => ?_, fun a had => s.after_enqr_split v had⟩⟩
  · obtain ⟨hafter, hacc⟩ := State.replicate_enq v d.toNat hf
    have hexec := (exec_eq_after _ s).trans (congrArg _ (after_enqr_of_no_fault hf v d))
    refine ⟨_, _, _, hexec, hafter.symm, rfl, by omega, by simp [hacc], fun hcap => ?_⟩
    exact congrArg (min d.toNat) (s.freeSlots_toNat hcap)
  · exact (exec_eq_after _ s).trans (congrArg _ (after_enqr_of_fault hf v d))

/-- Settles O18: the cells and registers after the accepted attempts. -/
theorem enqrStoresOnlyAcceptedCells : Obligations.EnqrStoresOnlyAcceptedCells := by
  intro v d s hf hcap
  have ha := after_enqr_of_no_fault hf v d
  rw [s.freeSlots_toNat hcap] at ha
  refine ⟨_, (exec_eq_after _ s).trans (congrArg _ ha), fun k hk => ?_, fun a hother => ?_, ?_, ?_⟩
  · exact (State.readCell_pushTimes _ v s _).trans (if_pos ⟨k, hk, rfl⟩)
  · exact (State.readCell_pushTimes _ v s a).trans (if_neg fun ⟨k, hk, heq⟩ => hother k hk heq)
  · exact State.pushTimes_qtail _ v s
  · obtain ⟨m, hm⟩ := State.pushTimes_frame (min d.toNat (Config.qcap - s.qcount.toNat)) v s
    rw [hm]
    rfl

/-- Settles O19: the accepted attempts stand behind the entries held. -/
theorem overflowDropsOnlyNewest : Obligations.OverflowDropsOnlyNewest := by
  intro v d s hf hcap
  rw [State.length_queueContents] at hcap ⊢
  have hcap : s.qcount.toNat ≤ Config.qcap := hcap
  have hcontents : (s.after (.enqr v d)).queueContents =
      s.queueContents ++ List.replicate (min d.toNat (Config.qcap - s.qcount.toNat)) v := by
    rw [after_enqr_of_no_fault hf, State.queueContents_answer, s.freeSlots_toNat hcap,
      State.queueContents_pushTimes _ v s (by omega)]
  exact ⟨_, exec_eq_after _ s, hcontents, (State.length_queueContents _).trans_le (State.qcount_after_le hcap _)⟩

end Sys2Proof.Machine
end

section
/-! The Encoder Adapter (R147): how many attempts its operations make, and their order. -/

namespace Sys2Proof.Machine

theorem expandPair_of_le {d : Nat} (hd : d ≤ maxDuration) (v : SymbolState) :
    expandPair v d = [.enqr v (BitVec.ofNat 16 d)] := if_pos hd

theorem attempts_enqr_ofNat {d : Nat} (hd : d ≤ maxDuration) (v : SymbolState) :
    attempts (.enqr v (BitVec.ofNat 16 d)) = d :=
  Nat.mod_eq_of_lt (Nat.lt_succ_of_le hd)

/-- The words a pair expands to make as many attempts as its duration says, split or not (R104). -/
theorem sum_attempts_expandPair (v : SymbolState) (d : Nat) : ((expandPair v d).map attempts).sum = d := by
  unfold expandPair
  split
  · next hd => simp [attempts_enqr_ofNat hd]
  · have hlast : d % maxDuration ≤ maxDuration := (Nat.mod_lt d (by decide)).le
    simp only [List.map_append, List.map_replicate, List.map_singleton, List.sum_append, List.sum_replicate,
      List.sum_singleton, smul_eq_mul, attempts_enqr_ofNat le_rfl, attempts_enqr_ofNat hlast]
    exact Nat.div_add_mod' d maxDuration

theorem expandPairs_cons (p : SymbolState × Nat) (ps : List (SymbolState × Nat)) :
    expandPairs (p :: ps) = expandPair p.1 p.2 ++ expandPairs ps := List.flatMap_cons

theorem expandPairs_append (ps qs : List (SymbolState × Nat)) :
    expandPairs (ps ++ qs) = expandPairs ps ++ expandPairs qs := List.flatMap_append

theorem sum_attempts_expandPairs (ps : List (SymbolState × Nat)) :
    ((expandPairs ps).map attempts).sum = (ps.map Prod.snd).sum := by
  induction ps with
  | nil => rfl
  | cons p ps ih => simp [expandPairs_cons, sum_attempts_expandPair, ih]

theorem expandPairs_of_le {ps : List (SymbolState × Nat)} (h : ∀ p ∈ ps, p.2 ≤ maxDuration) :
    expandPairs ps = ps.map fun p => .enqr p.1 (BitVec.ofNat 16 p.2) := by
  induction ps with
  | nil => rfl
  | cons p ps ih =>
    obtain ⟨hp, hps⟩ := List.forall_mem_cons.1 h
    simp [expandPairs_cons, expandPair_of_le hp, ih hps]

/-- Settles O21: the adapter expands the encoder's pairs, each into words whose durations add up to its own. -/
theorem adapterAttemptsSumOfDurations : Obligations.AdapterAttemptsSumOfDurations :=
  ⟨fun encoder text => ⟨sum_attempts_expandPairs (encoder text), expandPairs_of_le⟩,
    fun pairsOf c text => expandPairs_append (pairsOf c) (text.flatMap pairsOf)⟩

end Sys2Proof.Machine
end

section
/-! What `TICK`, `XDONE` and the passing of time do to the schedule and to the transfer handle (R22, R161 to R167). -/

namespace Sys2Proof.Machine

/-! ## The dequeue in terms of the queue's content (R141, R143) -/

theorem State.dequeue_of_queueContents_nil {s : State} (h : s.queueContents = []) : s.dequeue = (none, s) := by
  rcases s.dequeue_cases with ⟨-, hd⟩ | ⟨hne, -⟩
  · exact hd
  · simp [s.queueContents_eq_cons hne] at h

theorem State.dequeue_of_queueContents_head {s : State} {v : SymbolState} (h : s.queueContents.head? = some v) :
    s.dequeue = (some v, s.release) := by
  rcases s.dequeue_cases with ⟨hq, -⟩ | ⟨hne, hd⟩
  · simp [State.queueContents, s.queueEmpty_iff.1 hq] at h
  · rw [s.queueContents_eq_cons hne, List.head?_cons] at h
    rw [hd, h]

/-- The dequeue advances `QHEAD` unless the queue is empty (R143). -/
theorem State.dequeue_snd (s : State) :
    s.dequeue.2 = { s with qhead := if s.queueEmpty then s.qhead else s.qhead + 1#9 } := by
  rcases s.dequeue_cases with ⟨hq, hd⟩ | ⟨hq, hd⟩ <;> rw [hd, hq] <;> rfl

/-- Whether a tick plays Tone: only where the oldest entry is an explicit Tone entry (R162, R171). -/
def State.playsTone (s : State) : Bool := !s.queueEmpty && decide (s.readCell (cellOf s.qhead) = .tone)

theorem State.nextPlayback_dequeue (s : State) :
    nextPlayback s.dequeue.1 = if s.playsTone then .tone else .silent := by
  rcases s.dequeue_cases with ⟨hq, hd⟩ | ⟨hq, hd⟩
  · simp [hd, State.playsTone, hq, nextPlayback]
  · cases hv : s.readCell (cellOf s.qhead) <;> simp [hd, State.playsTone, hq, hv, nextPlayback]

/-! ## An enabled tick (R162, R243) -/

/-- The state an enabled tick leaves when it plays `p` and the peripheral accepts the buffer (R162). -/
def State.playTick (s : State) (p : PlaybackState) : State :=
  (((s.dequeue.2.consumeHandle.submit (muxBuffer p)).showPlayback p).reschedule).answer (.ok (.played p))

/-- Every register an accepted tick writes, for both playback states. -/
theorem State.playTick_eq (s : State) (tone : Bool) :
    s.playTick (if tone then .tone else .silent) = { s with
      qhead := if s.queueEmpty then s.qhead else s.qhead + 1#9
      xvalid := true, xbuf := if tone then .wave else .sil, xdn := false
      txlog := s.txlog ++ [if tone then .wave else .sil]
      pstate := if tone then .tone else .silent, ledN := !tone
      tickDl := s.tickDl + s.speed.setWidth 64
      result := some (.ok (.played (if tone then .tone else .silent))) } := by
  rw [State.playTick, s.dequeue_snd]
  cases tone <;> rfl

theorem State.after_tick_of_enabled {s : State} (ht : s.tickEnabled = true) : s.after .tick = s.fireTick := by
  obtain ⟨hfault, -⟩ := s.tickEnabled_iff.1 ht
  rcases after_tick_cases s with ⟨hf, -⟩ | ⟨-, ht', -⟩ | ⟨-, -, ha⟩
  · simp [hfault] at hf
  · simp [ht] at ht'
  · exact ha

theorem State.after_tick_of_accepted {s : State} (ht : s.tickEnabled = true) (hx : s.txf = false) :
    s.after .tick = s.playTick (nextPlayback s.dequeue.1) := by
  rw [State.after_tick_of_enabled ht]
  simp [State.fireTick, State.playTick, State.dequeue_consumeHandle, hx]

theorem State.after_tick_of_refused {s : State} (ht : s.tickEnabled = true) (hx : s.txf = true) :
    s.after .tick = s.dequeue.2.consumeHandle.raiseFault .txSubmitFail := by
  rw [State.after_tick_of_enabled ht]
  simp [State.fireTick, State.dequeue_consumeHandle, hx]

/-- `TICK_DL` moves only in a successful tick, by the Speed it reads (R165). -/
theorem State.after_tickDl (s : State) {i : Instr} (hreset : i ≠ .reset) :
    (s.after i).tickDl = s.tickDl +
      if i = .tick ∧ s.tickEnabled = true ∧ s.txf = false then s.speed.setWidth 64 else 0#64 := by
  obtain ⟨u, o, he, ha⟩ := after_effect s i
  obtain ⟨head, hd⟩ := s.dequeue_frame
  rw [ha]
  cases he with
  | kept _ htick => simp +contextual [htick]
  | enqr v d =>
    obtain ⟨m, hm⟩ := State.pushTimes_frame (min d.toNat s.freeSlots.toNat) v s
    simp [hm]
  | tickFaults _ hx => simp [hd, hx]
  | tickPlays p ht hx => simp [hd, ht, hx]
  | enq | edge | lvl | xdone | txf | clk | recheck => simp
  | reset => exact absurd rfl hreset

/-! ## Cycles left until a deadline (R22, R221) -/

theorem cyclesUntilDue_eq_zero_iff (c d : CycleWord) : cyclesUntilDue c d = 0 ↔ due c d = true := by
  simpa using cyclesUntilDue_lt_iff c d 1 (by decide)

/-- No cycle can elapse while the tick is enabled (R161, R221). -/
theorem State.clkEnabled_of_tickEnabled {s : State} (ht : s.tickEnabled = true) {n : Nat} (hn : n ≠ 0) :
    s.clkEnabled n = false := by
  obtain ⟨hfault, hdue, hvalid, hdone, -⟩ := s.tickEnabled_iff.1 ht
  rw [← Bool.not_eq_true, State.clkEnabled_iff]
  rintro ⟨-, htick⟩
  have hle : n ≤ cyclesUntilDue s.cycle s.tickDl := htick hfault hvalid hdone
  rw [(cyclesUntilDue_eq_zero_iff _ _).2 hdue] at hle
  exact hn (Nat.le_zero.1 hle)

/-! ## The stalled tick (R37, R172) -/

section
variable {s : State} (h : s.tstall = true)
include h

theorem State.tickEnabled_of_tstall : s.tickEnabled = false := by
  obtain ⟨-, -, -, hdone⟩ := s.tstall_iff.1 h
  simp [State.tickEnabled, hdone]

/-- A cycle can elapse while the tick stalls: only a due re-check could forbid it (R172, R221). -/
theorem State.clkEnabled_one_of_tstall (hr : s.recheckEnabled = false) : s.clkEnabled 1 = true := by
  obtain ⟨-, -, -, hdone⟩ := s.tstall_iff.1 h
  refine s.clkEnabled_iff 1 |>.2 ⟨fun hf hp => Nat.one_le_iff_ne_zero.2 fun hzero => ?_, by simp [hdone]⟩
  have hdue : due s.cycle s.rechkDl = true := (cyclesUntilDue_eq_zero_iff _ _).1 hzero
  simp [s.recheckEnabled_iff.2 ⟨hf, hp, hdue⟩] at hr

theorem State.after_xdone_of_tstall : s.after .xdone = s.confirmTransfer.answer (.ok .completed) := by
  obtain ⟨hfault, -, hvalid, hdone⟩ := s.tstall_iff.1 h
  rcases after_xdone_cases s with ⟨hf, -⟩ | ⟨-, -, -, ha⟩ | ⟨-, hidle, -⟩
  · simp [hfault] at hf
  · exact ha
  · exact absurd ⟨hvalid, hdone⟩ hidle

/-- Once its transfer completes, the stalled tick is enabled unless the re-check goes first (R161, R172). -/
theorem State.tickEnabled_after_xdone_of_tstall (hr : s.recheckEnabled = false) :
    (s.after .xdone).tickEnabled = true := by
  obtain ⟨hfault, hdue, hvalid, -⟩ := s.tstall_iff.1 h
  rw [State.after_xdone_of_tstall h]
  exact State.tickEnabled_iff _ |>.2 ⟨hfault, (due_iff _ _).2 hdue, hvalid, rfl, hr⟩

/-- No effect but `XDONE`'s and `RESET`'s ends a stall, and `CLK`'s none while the deadline stays due (R22, R172). -/
theorem State.tstall_after_of_tstall {i : Instr} (hxdone : i ≠ .xdone) (hreset : i ≠ .reset)
    (hclk : ∀ n, i = .clk n → due (s.cycle + n.setWidth 64) s.tickDl = true) : (s.after i).tstall = true := by
  have hdisabled : s.tickEnabled ≠ true := by simp [State.tickEnabled_of_tstall h]
  obtain ⟨u, o, he, ha⟩ := after_effect s i
  suffices hu : u.tstall = true by rw [ha]; exact hu
  cases he with
  | kept | enq | edge | lvl | txf | recheck => exact h
  | enqr v d =>
    obtain ⟨m, hm⟩ := State.pushTimes_frame (min d.toNat s.freeSlots.toNat) v s
    rw [hm]
    exact h
  | clk n =>
    obtain ⟨hfault, -, hvalid, hdone⟩ := s.tstall_iff.1 h
    exact State.tstall_iff _ |>.2 ⟨hfault, (due_iff _ _).1 (hclk n rfl), hvalid, hdone⟩
  | tickFaults ht | tickPlays _ ht => exact absurd ht hdisabled
  | xdone => exact absurd rfl hxdone
  | reset => exact absurd rfl hreset

end

end Sys2Proof.Machine
end

section
/-! The Playback Scheduler's statements (42_playback_scheduler.md). -/

namespace Sys2Proof.Machine

/-- Settles O25, by induction on the sequence of operations: each moves `TICK_DL` by its own summand. -/
theorem scheduleIsDriftFree : Obligations.ScheduleIsDriftFree := by
  intro s is hreset
  induction is generalizing s with
  | nil => simp [State.afterAll, State.periodsAlong]
  | cons i is ih =>
    obtain ⟨hi, his⟩ : .reset ≠ i ∧ .reset ∉ is := by simpa using hreset
    have hrest : ((s.after i).afterAll is).tickDl = (s.after i).tickDl + (s.after i).periodsAlong is := ih _ his
    rwa [s.after_tickDl hi.symm, BitVec.add_assoc] at hrest

/-- Settles O23: an enabled tick plays or faults by `TXF`, any other only answers. -/
theorem tickPlaysFaultsOrRefuses : Obligations.TickPlaysFaultsOrRefuses := by
  refine ⟨spells_encode (i := .tick) fun _ => rfl, fun s => ?_⟩
  simp only [exec_eq_after, Host.Outcome.next.injEq]
  refine ⟨fun ht hx => ?_, fun ht hx => ?_, fun hf ht => ?_, fun hf => ?_⟩
  · rw [State.after_tick_of_accepted ht hx, s.nextPlayback_dequeue]
    exact s.playTick_eq s.playsTone
  · rw [State.after_tick_of_refused ht hx, s.dequeue_snd]
    rfl
  · rcases after_tick_cases s with ⟨hf', -⟩ | ⟨-, -, ha⟩ | ⟨-, ht', -⟩
    · simp [hf] at hf'
    · exact ha
    · simp [ht] at ht'
  · rcases after_tick_cases s with ⟨-, ha⟩ | ⟨hf', -⟩ | ⟨hf', -⟩
    · exact ha
    · simp [hf] at hf'
    · simp [hf] at hf'

/-- Settles O24: the dequeue finds nothing or a Silence entry, and either way the tick plays Silence. -/
theorem emptyQueuePlaysSilence : Obligations.EmptyQueuePlaysSilence := by
  intro s ht hx hcontents
  refine ⟨_, exec_eq_after _ s, ?_⟩
  rw [State.after_tick_of_accepted ht hx]
  rcases hcontents with hnil | hhead
  · have hd := State.dequeue_of_queueContents_nil hnil
    simp [State.playTick, hd, hnil, nextPlayback, muxBuffer, indicatorLevel]
  · have hd := State.dequeue_of_queueContents_head hhead
    have hcons : s.queueContents = .silence :: s.release.queueContents := by
      simpa [hd] using s.queueContents_dequeue
    simp [State.playTick, hd, hcons, nextPlayback, muxBuffer, indicatorLevel]

/-- Settles O27: the stall leaves `CLK` a cycle, `XDONE` completes its transfer, and no other effect touches it. -/
theorem stallEndsOnlyByCompletion : Obligations.StallEndsOnlyByCompletion := by
  intro s h
  have hxdone := State.after_xdone_of_tstall h
  refine ⟨State.tickEnabled_of_tstall h, fun hr => ⟨_, exec_eq_after _ s, ?_⟩,
    ⟨_, exec_eq_after _ s, ?_, ?_, State.tickEnabled_after_xdone_of_tstall h⟩,
    fun _ => State.tstall_after_of_tstall h⟩
  · rcases after_clk_cases 1#28 s with ⟨-, ha⟩ | ⟨hdisabled, -⟩
    · rw [ha]
      rfl
    · exact absurd (State.clkEnabled_one_of_tstall h hr) (Bool.eq_false_iff.1 hdisabled)
  · simp [hxdone, State.tstall]
  · rw [hxdone]
    rfl

/-- Settles O28: the tick leaves a state in which the next one stalls, and `XDONE` ends the stall. -/
theorem lateTicksCatchUp : Obligations.LateTicksCatchUp := by
  intro s ht hx hdue
  obtain ⟨hfault, -, -, -, hr⟩ := s.tickEnabled_iff.1 ht
  have htick := State.after_tick_of_accepted ht hx
  rw [State.playTick, s.dequeue_snd] at htick
  have hstall : (s.after .tick).tstall = true := by
    rw [htick]
    exact State.tstall_iff _ |>.2 ⟨hfault, (due_iff _ _).1 hdue, rfl, rfl⟩
  refine ⟨hstall, State.tickEnabled_after_xdone_of_tstall hstall ?_, ?_⟩
  · rw [htick]
    exact hr
  · rw [State.after_xdone_of_tstall hstall, htick]
    rfl

/-- Settles O22: the conditions with `due` written out, and the tick's deadline leaves `CLK` no cycle. -/
theorem tickEnablingConditionAsStated : Obligations.TickEnablingConditionAsStated := by
  refine fun s => ⟨by rw [s.tickEnabled_iff, due_iff], s.tstall_iff, State.tickEnabled_of_tstall, fun ht n hn => ?_⟩
  have hcycles : n.toNat ≠ 0 := fun h => hn (BitVec.eq_of_toNat_eq h)
  rw [exec_eq_after]
  rcases after_clk_cases n s with ⟨henabled, -⟩ | ⟨-, ha⟩
  · simp [State.clkEnabled_of_tickEnabled ht hcycles] at henabled
  · exact congrArg _ ha

/-- Settles O29: the three cases of `XDONE`. -/
theorem xdoneCompletesOrIsIgnored : Obligations.XdoneCompletesOrIsIgnored := by
  refine ⟨spells_encode (i := .xdone) fun _ => rfl, fun s => ?_⟩
  simp only [exec_eq_after, Host.Outcome.next.injEq]
  rcases after_xdone_cases s with ⟨hf, ha⟩ | ⟨hf, hvalid, hdone, ha⟩ | ⟨hf, hidle, ha⟩
  · exact ⟨by simp [hf], by simp [hf], fun _ => ha⟩
  · exact ⟨fun _ _ _ => ha, by simp [hvalid, hdone], by simp [hf]⟩
  · exact ⟨fun _ hvalid hdone => absurd ⟨hvalid, hdone⟩ hidle, fun _ _ => ha, by simp [hf]⟩

/-- Settles O30: `TXF` writes its latch and answers, whatever the state. -/
theorem txfDrivesItsLatch : Obligations.TxfDrivesItsLatch :=
  ⟨spells_encode (i := .txf false) fun _ => rfl, spells_encode (i := .txf true) fun _ => rfl,
    fun f s => (exec_eq_after _ s).trans (congrArg _ (after_txf f s))⟩

end Sys2Proof.Machine
end

section
/-! What `EDGE`, `LVL` and `RECHECK` do to the Debounce Controller, and how it follows the passing of time (R191 to
R198). -/

namespace Sys2Proof.Machine

/-! ## Registers with one writer, along a sequence of operations (R42) -/

/-- Only `RECHECK` and `RESET` write `SPEED`. -/
theorem State.after_speed (s : State) {i : Instr} (hrecheck : i ≠ .recheck) (hreset : i ≠ .reset) :
    (s.after i).speed = s.speed := by
  obtain ⟨-, hspeed, -⟩ := eachRegisterHasOneWriter i s _ (exec_eq_after i s) hreset
  exact hspeed hrecheck

/-- Only `EDGE`, `RECHECK` and `RESET` write `DBST`. -/
theorem State.after_dbst (s : State) {i : Instr} (hedge : i ≠ .edge) (hrecheck : i ≠ .recheck)
    (hreset : i ≠ .reset) : (s.after i).dbst = s.dbst := by
  obtain ⟨-, -, -, -, -, -, -, hdbst, -⟩ := eachRegisterHasOneWriter i s _ (exec_eq_after i s) hreset
  exact hdbst hedge hrecheck

theorem State.afterAll_speed (s : State) {is : List Instr} (hrecheck : .recheck ∉ is) (hreset : .reset ∉ is) :
    (s.afterAll is).speed = s.speed :=
  List.foldlRecOn (motive := fun t : State => t.speed = s.speed) is State.after rfl fun t ht _ hi =>
    (State.after_speed t (ne_of_mem_of_not_mem hi hrecheck) (ne_of_mem_of_not_mem hi hreset)).trans ht

/-! ## The pin levels (R193) -/

/-- Levels that a configuration accepts are levels of buttons it has (R34, R100). -/
theorem buttonLevels_of_wellFormed {cfg : Config} {m : BitVec 3} (h : (Instr.lvl m).wellFormed cfg = true) :
    buttonLevels cfg m = m := by
  have hlow : ∀ l : BitVec 3, l.getLsbD 2 = false → l &&& 3#3 = l := by decide
  cases hb : cfg.buttons with
  | two => simpa only [buttonLevels, hb] using hlow m (by simpa [Instr.wellFormed, hb] using h)
  | three => simp only [buttonLevels, hb]

/-! ## The re-check (R194, R195) -/

theorem State.recheckEnabled_of_armed {s : State} (h : s.dbst = .armed) : s.recheckEnabled = false := by
  simp [State.recheckEnabled, h]

theorem after_recheck_of_enabled {s : State} (hr : s.recheckEnabled = true) :
    s.after .recheck = (s.finishRecheck s.adjustedSpeed).answer (.ok (.speed s.adjustedSpeed)) := by
  obtain ⟨hfault, -⟩ := s.recheckEnabled_iff.1 hr
  rcases after_recheck_cases s with ⟨hf, -⟩ | ⟨-, hr', -⟩ | ⟨-, -, ha⟩
  · simp [hfault] at hf
  · simp [hr] at hr'
  · exact ha

/-- The adjustments of the buttons found low, added one by one; button 2 counts only where it exists (R195). -/
theorem State.adjustedSpeed_eq (s : State) : s.adjustedSpeed = s.speed
    + (if s.btn.getLsbD 0 = false then -600000#32 else 0#32)
    + (if s.btn.getLsbD 1 = false then 600000#32 else 0#32)
    + (if s.cfg.buttons = .three ∧ s.btn.getLsbD 2 = false then s.cfg.adj2 else 0#32) := by
  have hadd (low : Bool) (v a : SpeedWord) :
      (if low then v else v + a) = v + if low = false then a else 0#32 := by cases low <;> simp
  cases hb : s.cfg.buttons <;>
    simp [State.adjustedSpeed, hb, buttonCount, List.range_succ, hadd, adjustment, Config.stepSize]

/-- While the re-check is enabled the tick is not (R161). -/
theorem State.tickEnabled_of_recheckEnabled {s : State} (hr : s.recheckEnabled = true) : s.tickEnabled = false := by
  simp [State.tickEnabled, hr]

/-- No cycle can elapse while the re-check is enabled (R194, R221). -/
theorem State.clkEnabled_of_recheckEnabled {s : State} (hr : s.recheckEnabled = true) {n : Nat} (hn : n ≠ 0) :
    s.clkEnabled n = false := by
  obtain ⟨hfault, hpending, hdue⟩ := s.recheckEnabled_iff.1 hr
  rw [← Bool.not_eq_true, State.clkEnabled_iff]
  rintro ⟨hrecheck, -⟩
  have hle : n ≤ cyclesUntilDue s.cycle s.rechkDl := hrecheck hfault hpending
  rw [(cyclesUntilDue_eq_zero_iff _ _).2 hdue] at hle
  exact hn (Nat.le_zero.1 hle)

/-- Once the re-check is done the tick goes ahead, if it was due with its transfer completed (R201, R254). -/
theorem State.tickEnabled_after_recheck {s : State} (hr : s.recheckEnabled = true)
    (hdue : due s.cycle s.tickDl = true) (hvalid : s.xvalid = true) (hdone : s.xdn = true) :
    (s.after .recheck).tickEnabled = true := by
  obtain ⟨hfault, -⟩ := s.recheckEnabled_iff.1 hr
  rw [after_recheck_of_enabled hr]
  exact State.tickEnabled_iff _ |>.2 ⟨hfault, hdue, hvalid, hdone, State.recheckEnabled_of_armed rfl⟩

/-- A controller that is Armed stays so without an edge, and a `RECHECK` finds nothing to do (R198). -/
theorem State.after_of_armed {s : State} (harmed : s.dbst = .armed) {i : Instr} (hedge : i ≠ .edge)
    (hreset : i ≠ .reset) : (s.after i).speed = s.speed ∧ (s.after i).dbst = .armed := by
  by_cases hrecheck : i = .recheck
  · subst hrecheck
    rcases after_recheck_cases s with ⟨-, ha⟩ | ⟨-, -, ha⟩ | ⟨-, hr, -⟩
    · simp [ha, harmed]
    · simp [ha, harmed]
    · simp [State.recheckEnabled_of_armed harmed] at hr
  · exact ⟨s.after_speed hrecheck hreset, (s.after_dbst hedge hrecheck hreset).trans harmed⟩

/-! ## Time since the last edge (R191, R192, R194) -/

theorem after_edge_of_no_fault {s : State} (hf : s.fault = false) :
    s.after .edge = s.armRecheck.answer (.ok .done) := by
  rcases after_edge_cases s with ⟨hf', -⟩ | ⟨-, ha⟩
  · simp [hf] at hf'
  · exact ha

/-- The one re-check is scheduled by an edge `k` cycles ago. -/
structure State.SinceEdge (s : State) (k : Nat) : Prop where
  fault : s.fault = false
  dbst : s.dbst = .pending
  rechkDl : s.rechkDl = s.cycle - BitVec.ofNat 64 k + 3000000#64

/-- An edge restarts the count, from either state of the controller. -/
theorem State.sinceEdge_after_edge {s : State} (hf : s.fault = false) : (s.after .edge).SinceEdge 0 := by
  rw [after_edge_of_no_fault hf]
  exact ⟨hf, rfl, by simp [State.armRecheck, Config.settle]⟩

/-- The re-check is enabled exactly from `SETTLE` cycles after its edge on. -/
theorem State.SinceEdge.recheckEnabled_iff {s : State} {k : Nat} (h : s.SinceEdge k) (hk : k < 2 ^ 63) :
    s.recheckEnabled = true ↔ 3000000 ≤ k := by
  have hdiff : s.cycle - s.rechkDl = BitVec.ofNat 64 k - 3000000#64 := by rw [h.rechkDl]; ring
  have hdue : due s.cycle s.rechkDl = true ↔ 3000000 ≤ k := by
    rw [due_iff, hdiff, BitVec.toNat_sub, BitVec.toNat_ofNat, BitVec.toNat_ofNat]
    omega
  rw [s.recheckEnabled_iff, hdue]
  exact ⟨fun ⟨_, _, hle⟩ => hle, fun hle => ⟨h.fault, h.dbst, hle⟩⟩

theorem State.SinceEdge.recheckEnabled_eq_false {s : State} {k : Nat} (h : s.SinceEdge k) (hk : k < 3000000) :
    s.recheckEnabled = false := by
  rw [← Bool.not_eq_true, h.recheckEnabled_iff (by omega)]
  omega

/-- A `CLK` word lets its cycles pass, or none where it is refused. -/
theorem State.SinceEdge.after_clk {s : State} {k : Nat} (h : s.SinceEdge k) (g : BitVec 28) :
    ∃ k' ≤ k + g.toNat, (s.after (.clk g)).SinceEdge k' := by
  rcases after_clk_cases g s with ⟨-, ha⟩ | ⟨-, ha⟩ <;> rw [ha]
  · refine ⟨k + g.toNat, le_rfl, h.fault, h.dbst, ?_⟩
    simp [h.rechkDl, BitVec.ofNat_add]
  · exact ⟨k, Nat.le_add_right .., h.fault, h.dbst, h.rechkDl⟩

/-- What follows the first edge of a burst: after each gap, one more edge (R192). -/
def laterEdges (gaps : List (BitVec 28)) : List Instr := gaps.flatMap fun g => [.clk g, .edge]

@[simp] theorem laterEdges_nil : laterEdges [] = [] := rfl
@[simp] theorem laterEdges_cons (g : BitVec 28) (gaps : List (BitVec 28)) :
    laterEdges (g :: gaps) = .clk g :: .edge :: laterEdges gaps := rfl

/-- In a burst with short gaps no re-check becomes enabled, and its last edge is the one that counts: by induction
on the gaps, each of which an edge ends. -/
theorem State.SinceEdge.afterAll_laterEdges {gaps : List (BitVec 28)} (hgaps : ∀ g ∈ gaps, g.toNat < 3000000)
    {s : State} (h : s.SinceEdge 0) :
    (∀ ops, ops <+: laterEdges gaps → (s.afterAll ops).recheckEnabled = false) ∧
    (s.afterAll (laterEdges gaps)).SinceEdge 0 := by
  have hstart : s.recheckEnabled = false := h.recheckEnabled_eq_false (by decide)
  induction gaps generalizing s with
  | nil =>
    refine ⟨fun ops hops => ?_, h⟩
    obtain rfl : ops = [] := by simpa using hops
    exact hstart
  | cons g gaps ih =>
    obtain ⟨hg, hgaps⟩ := List.forall_mem_cons.1 hgaps
    obtain ⟨k, hk, hgap⟩ := h.after_clk g
    have hedge : ((s.after (.clk g)).after .edge).SinceEdge 0 := State.sinceEdge_after_edge hgap.fault
    obtain ⟨hbegin, hlast⟩ := ih hgaps hedge (hedge.recheckEnabled_eq_false (by decide))
    refine ⟨fun ops hops => ?_, hlast⟩
    match ops with
    | [] => exact hstart
    | [i] =>
      obtain rfl : i = .clk g := by simpa using hops
      exact hgap.recheckEnabled_eq_false (by omega)
    | i :: j :: rest =>
      obtain ⟨rfl, rfl, hrest⟩ : i = .clk g ∧ j = .edge ∧ rest <+: laterEdges gaps := by simpa using hops
      exact hbegin rest hrest

end Sys2Proof.Machine
end

section
/-! The Debounce Controller's statements (43_debounce.md). -/

namespace Sys2Proof.Machine

/-- Settles O36: the induction over the gaps starts at the first edge, and no `RECHECK` adjusts `SPEED`. -/
theorem edgeBurstArmsOneRecheck : Obligations.EdgeBurstArmsOneRecheck := by
  refine ⟨fun s gaps hf hgaps => ?_, fun s hr => ?_⟩
  · obtain ⟨hbegin, hlast⟩ := (State.sinceEdge_after_edge hf).afterAll_laterEdges hgaps
    have hspeed := s.afterAll_speed (is := .edge :: laterEdges gaps) (by simp [laterEdges]) (by simp [laterEdges])
    have hdeadline := hlast.rechkDl
    rw [BitVec.sub_zero] at hdeadline
    exact ⟨hbegin, hlast.dbst, hdeadline, hspeed⟩
  · obtain ⟨hf, -⟩ := s.recheckEnabled_iff.1 hr
    refine ⟨(State.sinceEdge_after_edge hf).recheckEnabled_eq_false (by decide), ?_⟩
    rw [after_edge_of_no_fault hf]
    exact ⟨rfl, rfl, rfl⟩

/-- Settles O35: the condition with `due` written out; after an edge the cycles since it decide. -/
theorem recheckEnabledExactlyAfterSettle : Obligations.RecheckEnabledExactlyAfterSettle := by
  refine fun s => ⟨by rw [s.recheckEnabled_iff, due_iff], fun hf k hk => ?_,
    fun hr => ⟨State.tickEnabled_of_recheckEnabled hr, fun n hn => ?_⟩⟩
  · have hsince : ({ s.after .edge with cycle := s.cycle + BitVec.ofNat 64 k } : State).SinceEdge k := by
      rw [after_edge_of_no_fault hf]
      exact ⟨hf, rfl, by simp [State.armRecheck, Config.settle]⟩
    exact hsince.recheckEnabled_iff hk
  · have hcycles : n.toNat ≠ 0 := fun h => hn (BitVec.eq_of_toNat_eq h)
    rw [exec_eq_after]
    rcases after_clk_cases n s with ⟨henabled, -⟩ | ⟨-, ha⟩
    · simp [State.clkEnabled_of_recheckEnabled hr hcycles] at henabled
    · exact congrArg _ ha

/-- Settles O37: each operation of the sequence keeps `SPEED` and leaves the controller Armed. -/
theorem noAdjustmentWithoutEdge : Obligations.NoAdjustmentWithoutEdge := by
  intro s is harmed hedge hreset
  refine List.foldlRecOn (motive := fun t : State => t.speed = s.speed ∧ t.dbst = .armed) is State.after
    ⟨rfl, harmed⟩ fun t ⟨htspeed, htarmed⟩ i hi => ?_
  obtain ⟨hspeed, harmed'⟩ :=
    State.after_of_armed htarmed (ne_of_mem_of_not_mem hi hedge) (ne_of_mem_of_not_mem hi hreset)
  exact ⟨hspeed.trans htspeed, harmed'⟩

/-- Settles O38: the enabled re-check disables the tick, and leaves it enabled with the adjusted Speed to read. -/
theorem recheckGoesBeforeTick : Obligations.RecheckGoesBeforeTick := by
  intro s hr hdue hvalid hdone
  obtain ⟨hfault, -⟩ := s.recheckEnabled_iff.1 hr
  have ht := State.tickEnabled_after_recheck hr hdue hvalid hdone
  have hdeadline : (s.after .recheck).tickDl = s.tickDl := by simp [s.after_tickDl]
  refine ⟨?_, _, exec_eq_after _ s, hdeadline, ht, fun hx => ⟨_, exec_eq_after _ _, ?_⟩⟩
  · rw [exec_eq_after]
    rcases after_tick_cases s with ⟨hf, -⟩ | ⟨-, -, ha⟩ | ⟨-, ht', -⟩
    · simp [hfault] at hf
    · exact congrArg _ ha
    · simp [State.tickEnabled_of_recheckEnabled hr] at ht'
  · rw [State.after_tickDl _ (by decide), if_pos ⟨rfl, ht, hx⟩, hdeadline]

/-- Settles O33: the three cases of `RECHECK`, with the adjusted Speed written out. -/
theorem recheckAdjustsRefusesOrHalts : Obligations.RecheckAdjustsRefusesOrHalts := by
  refine ⟨spells_encode (i := .recheck) fun _ => rfl, fun s => ?_⟩
  simp only [exec_eq_after, Host.Outcome.next.injEq, ← s.adjustedSpeed_eq]
  refine ⟨after_recheck_of_enabled, fun hf hr => ?_, fun hf => ?_⟩
  · rcases after_recheck_cases s with ⟨hf', -⟩ | ⟨-, -, ha⟩ | ⟨-, hr', -⟩
    · simp [hf] at hf'
    · exact ha
    · simp [hr] at hr'
  · rcases after_recheck_cases s with ⟨-, ha⟩ | ⟨hf', -⟩ | ⟨hf', -⟩
    · exact ha
    · simp [hf] at hf'
    · simp [hf] at hf'

/-- Settles O34: the one adjustment that applies, as a sum modulo 2^32. -/
theorem speedWrapsWithoutClamp : Obligations.SpeedWrapsWithoutClamp := by
  intro s hr htwo
  have hlt := s.speed.isLt
  have hspeed : (s.after .recheck).speed = s.adjustedSpeed := by simp [after_recheck_of_enabled hr]
  refine ⟨fun h0 h1 => ⟨_, exec_eq_after _ s, ?_⟩, fun h0 h1 => ⟨_, exec_eq_after _ s, ?_⟩⟩
  · have hfaster : s.adjustedSpeed = s.speed + -600000#32 := by
      rw [s.adjustedSpeed_eq, htwo, h0, h1]
      simp
    rw [hspeed, hfaster, BitVec.toNat_add, BitVec.toNat_neg, BitVec.toNat_ofNat]
    omega
  · have hslower : s.adjustedSpeed = s.speed + 600000#32 := by
      rw [s.adjustedSpeed_eq, htwo, h0, h1]
      simp
    rw [hspeed, hslower, BitVec.toNat_add, BitVec.toNat_ofNat]
    omega

/-- Settles O31: the two cases of `EDGE`. -/
theorem edgeArmsRecheck : Obligations.EdgeArmsRecheck := by
  refine ⟨spells_encode (i := .edge) fun _ => rfl, fun s => ?_⟩
  simp only [exec_eq_after, Host.Outcome.next.injEq]
  refine ⟨after_edge_of_no_fault, fun hf => ?_⟩
  rcases after_edge_cases s with ⟨-, ha⟩ | ⟨hf', -⟩
  · exact ha
  · simp [hf] at hf'

/-- Settles O32: legal levels are a well-formed operand, and none of them belongs to an absent button. -/
theorem lvlDrivesThePins : Obligations.LvlDrivesThePins := by
  intro m cfg hlegal
  have hwf : (Instr.lvl m).wellFormed cfg = true := by simpa [Instr.wellFormed_lvl_iff] using hlegal
  have hword : encode (.lvl m) = 0x40000000#32 ||| m.setWidth 32 := rfl
  refine ⟨hword ▸ decode_encode hwf, rfl, fun s hcfg => ?_⟩
  rw [exec_eq_after, after_lvl, State.setLevels, hcfg, buttonLevels_of_wellFormed hwf]
  rfl

end Sys2Proof.Machine
end

section
/-! The block's urgent operations (R222, R226) and the passing of time between them (R220, R221). -/

namespace Sys2Proof.Machine

section
variable {s : State}

/-! ## Which urgent operation is enabled (R161, R194, R226) -/

theorem State.urgentOperation_of_recheckEnabled (hr : s.recheckEnabled = true) :
    s.urgentOperation = some .recheck := if_pos hr

theorem State.urgentOperation_of_tickEnabled (ht : s.tickEnabled = true) : s.urgentOperation = some .tick := by
  obtain ⟨-, -, -, -, hr⟩ := s.tickEnabled_iff.1 ht
  simp [State.urgentOperation, hr, ht]

theorem State.urgentOperation_eq_none_iff :
    s.urgentOperation = none ↔ s.recheckEnabled = false ∧ s.tickEnabled = false := by
  cases hr : s.recheckEnabled <;> cases ht : s.tickEnabled <;> simp [State.urgentOperation, hr, ht]

theorem State.urgentOperation_ne_none_iff :
    s.urgentOperation ≠ none ↔ s.recheckEnabled = true ∨ s.tickEnabled = true := by
  rw [ne_eq, State.urgentOperation_eq_none_iff, not_and_or, Bool.not_eq_false, Bool.not_eq_false]

/-- The three answers of the choice R226 makes. -/
theorem State.urgentOperation_cases (s : State) :
    (s.recheckEnabled = true ∧ s.urgentOperation = some .recheck) ∨
    (s.tickEnabled = true ∧ s.urgentOperation = some .tick) ∨ s.urgentOperation = none := by
  by_cases hu : s.urgentOperation = none
  · exact .inr (.inr hu)
  · rcases State.urgentOperation_ne_none_iff.1 hu with hr | ht
    · exact .inl ⟨hr, State.urgentOperation_of_recheckEnabled hr⟩
    · exact .inr (.inl ⟨ht, State.urgentOperation_of_tickEnabled ht⟩)

/-- No urgent operation is enabled when no deadline of one that could fire is due: the re-check's precedence over the
tick does not matter here. -/
theorem State.urgentOperation_eq_none_iff_not_due :
    s.urgentOperation = none ↔
      (s.fault = false → s.dbst = .pending → due s.cycle s.rechkDl = false) ∧
      (s.fault = false → s.xvalid = true → s.xdn = true → due s.cycle s.tickDl = false) := by
  rw [State.urgentOperation_eq_none_iff]
  constructor
  · rintro ⟨hr, ht⟩
    refine ⟨fun hf hp => ?_, fun hf hv hd => ?_⟩
    · simpa [State.recheckEnabled, hf, hp] using hr
    · simpa [State.tickEnabled, hf, hv, hd, hr] using ht
  · rintro ⟨hrechk, htick⟩
    refine ⟨Bool.eq_false_iff.2 fun hr => ?_, Bool.eq_false_iff.2 fun ht => ?_⟩
    · obtain ⟨hf, hp, hdue⟩ := s.recheckEnabled_iff.1 hr
      simp [hrechk hf hp] at hdue
    · obtain ⟨hf, hdue, hv, hd, -⟩ := s.tickEnabled_iff.1 ht
      simp [htick hf hv hd] at hdue

theorem State.urgentOperation_of_fault (hf : s.fault = true) : s.urgentOperation = none :=
  State.urgentOperation_eq_none_iff_not_due.2 ⟨by simp [hf], by simp [hf]⟩

/-! ## Steps without a waiting event (R226) -/

theorem step_of_urgentOperation {i : Instr} (hevents : s.events = []) (hu : s.urgentOperation = some i) :
    step s = exec i s := by
  simp [step, State.takeEvent, hevents, hu]

theorem step_of_idle (hevents : s.events = []) (hu : s.urgentOperation = none) : step s = .next s := by
  simp [step, State.takeEvent, hevents, hu]

/-! ## Settling (R226) -/

/-- The re-check disables itself: it returns the controller to Armed. -/
theorem State.recheckEnabled_after_recheck (hr : s.recheckEnabled = true) :
    (s.after .recheck).recheckEnabled = false := by
  rw [after_recheck_of_enabled hr]
  exact State.recheckEnabled_of_armed rfl

/-- An enabled tick leaves nothing urgent: it faults, or it leaves its new transfer in flight with the re-check still
disabled. -/
theorem State.urgentOperation_after_tick (ht : s.tickEnabled = true) : (s.after .tick).urgentOperation = none := by
  obtain ⟨-, -, -, -, hr⟩ := s.tickEnabled_iff.1 ht
  cases hx : s.txf with
  | true =>
    rw [State.after_tick_of_refused ht hx]
    exact State.urgentOperation_of_fault rfl
  | false =>
    rw [State.after_tick_of_accepted ht hx, State.playTick, s.dequeue_snd]
    exact State.urgentOperation_eq_none_iff.2 ⟨hr, by simp [State.tickEnabled]⟩

theorem State.settleFor_of_idle (hu : s.urgentOperation = none) (fuel : Nat) : s.settleFor fuel = s := by
  cases fuel <;> simp [State.settleFor, hu]

theorem State.settleFor_succ_of_urgentOperation {i : Instr} (hu : s.urgentOperation = some i) (fuel : Nat) :
    s.settleFor (fuel + 1) = (s.after i).settleFor fuel := by
  simp [State.settleFor, hu]

theorem State.settleFor_add (s : State) (m n : Nat) : s.settleFor (m + n) = (s.settleFor m).settleFor n := by
  induction m generalizing s with
  | zero => simp [State.settleFor]
  | succ m ih =>
    rw [Nat.add_right_comm]
    cases hu : s.urgentOperation with
    | none => simp [State.settleFor_of_idle hu]
    | some i => rw [State.settleFor_succ_of_urgentOperation hu, State.settleFor_succ_of_urgentOperation hu, ih]

/-- Once no re-check is enabled, one turn settles: it can only be a tick. -/
theorem State.urgentOperation_settleFor_one (hr : s.recheckEnabled = false) :
    (s.settleFor 1).urgentOperation = none := by
  rcases s.urgentOperation_cases with ⟨hr', -⟩ | ⟨ht, hu⟩ | hu
  · simp [hr] at hr'
  · rw [State.settleFor_succ_of_urgentOperation hu]
    exact State.urgentOperation_after_tick ht
  · rwa [State.settleFor_of_idle hu]

theorem State.urgentOperation_settle (s : State) : s.settle.urgentOperation = none := by
  rw [State.settle]
  rcases s.urgentOperation_cases with ⟨hr, hu⟩ | ⟨ht, hu⟩ | hu
  · rw [State.settleFor_succ_of_urgentOperation hu]
    exact State.urgentOperation_settleFor_one (State.recheckEnabled_after_recheck hr)
  · have hidle := State.urgentOperation_after_tick ht
    rwa [State.settleFor_succ_of_urgentOperation hu, State.settleFor_of_idle hidle]
  · rwa [State.settleFor_of_idle hu]

/-! ## `CLK` as repeated unit steps (R220, R221) -/

/-- The state with `k` cycles passed and nothing else changed. -/
def State.later (s : State) (k : Nat) : State := { s with cycle := s.cycle + BitVec.ofNat 64 k }

@[simp] theorem State.later_zero (s : State) : s.later 0 = s := by simp [State.later]

theorem State.later_later (s : State) (j k : Nat) : (s.later j).later k = s.later (j + k) := by
  simp [State.later, BitVec.ofNat_add, BitVec.add_assoc]

theorem State.elapse_eq_later (s : State) (n : BitVec 28) : s.elapse n = s.later n.toNat := by
  simp [State.elapse, State.later]

/-- The outcome recorded has no part in what is enabled. -/
@[simp] theorem State.urgentOperation_later_answer (s : State) (o : EventOutcome) (k : Nat) :
    ((s.answer o).later k).urgentOperation = (s.later k).urgentOperation := rfl

theorem State.clkEnabled_iff_forall_later (s : State) {n : Nat} (hn : n ≤ 2 ^ 63) :
    s.clkEnabled n = true ↔ ∀ k < n, (s.later k).urgentOperation = none := by
  have hcycles (d : CycleWord) :
      n ≤ cyclesUntilDue s.cycle d ↔ ∀ k < n, due (s.cycle + BitVec.ofNat 64 k) d = false := by
    simpa using (cyclesUntilDue_lt_iff s.cycle d n hn).not
  simp only [State.clkEnabled_iff, hcycles, State.urgentOperation_eq_none_iff_not_due]
  exact ⟨fun ⟨hrechk, htick⟩ k hk => ⟨fun hf hp => hrechk hf hp k hk, fun hf hv hd => htick hf hv hd k hk⟩,
    fun h => ⟨fun hf hp k hk => (h k hk).1 hf hp, fun hf hv hd k hk => (h k hk).2 hf hv hd⟩⟩

theorem State.clkEnabled_one_iff (s : State) : s.clkEnabled 1 = true ↔ s.urgentOperation = none := by
  simp [s.clkEnabled_iff_forall_later (n := 1) (by decide)]

theorem after_clk_of_enabled {n : BitVec 28} (h : s.clkEnabled n.toNat = true) :
    s.after (.clk n) = (s.elapse n).answer (.ok .done) := by
  rcases after_clk_cases n s with ⟨-, ha⟩ | ⟨h', -⟩
  · exact ha
  · simp [h] at h'

theorem after_clk_of_disabled {n : BitVec 28} (h : s.clkEnabled n.toNat = false) :
    s.after (.clk n) = s.answer .notEnabled := by
  rcases after_clk_cases n s with ⟨h', -⟩ | ⟨-, ha⟩
  · simp [h] at h'
  · exact ha

theorem State.admits_clk_one (s : State) : s.admits (.clk 1#28) = true ↔ s.urgentOperation = none := by
  rw [State.admits_iff, State.enables_clk, ← s.clkEnabled_one_iff]
  exact and_iff_right rfl

theorem after_clk_one (hu : s.urgentOperation = none) : s.after (.clk 1#28) = (s.later 1).answer (.ok .done) :=
  after_clk_of_enabled (n := 1#28) (s.clkEnabled_one_iff.2 hu)

/-- Unit steps are a run as long as nothing urgent is enabled at the start of any of them. -/
theorem State.isRun_replicate_clk_one (s : State) (n : Nat) :
    s.IsRun (List.replicate n (.clk 1#28)) ↔ ∀ k < n, (s.later k).urgentOperation = none := by
  induction n generalizing s with
  | zero => simp
  | succ n ih =>
    rw [List.replicate_succ, State.isRun_cons, State.admits_clk_one, Nat.forall_lt_succ_left, State.later_zero]
    refine and_congr_right fun hu => ?_
    simp only [after_clk_one hu, ih, State.urgentOperation_later_answer, State.later_later, Nat.add_comm 1]

/-- A run of unit steps lets its cycles pass, one each. -/
theorem State.afterAll_replicate_clk_one {n : Nat} (hrun : s.IsRun (List.replicate n (.clk 1#28))) :
    (s.afterAll (List.replicate n (.clk 1#28))).forgetResult = (s.later n).forgetResult := by
  induction n generalizing s with
  | zero => simp [State.afterAll]
  | succ n ih =>
    obtain ⟨hadmits, hrest⟩ := (State.isRun_cons ..).1 hrun
    have hstep := after_clk_one (s.admits_clk_one.1 hadmits)
    calc (s.afterAll (List.replicate (n + 1) (.clk 1#28))).forgetResult
      _ = ((s.after (.clk 1#28)).afterAll (List.replicate n (.clk 1#28))).forgetResult := rfl
      _ = ((s.after (.clk 1#28)).later n).forgetResult := ih hrest
      _ = ((s.later 1).later n).forgetResult := by rw [hstep]; rfl
      _ = (s.later (n + 1)).forgetResult := by rw [State.later_later, Nat.add_comm]

/-- The closed form of R221's condition says that the unit steps are a run. -/
theorem State.clkEnabled_iff_isRun (s : State) (n : BitVec 28) :
    s.clkEnabled n.toNat = true ↔ s.IsRun (List.replicate n.toNat (.clk 1#28)) := by
  have hn : n.toNat ≤ 2 ^ 63 := n.isLt.le.trans (by decide)
  rw [s.clkEnabled_iff_forall_later hn, s.isRun_replicate_clk_one]

end

end Sys2Proof.Machine
end

section
/-! Enabled and disabled operations in runs (R227), and the fault that only `RESET` leaves (R244, R245). -/

namespace Sys2Proof.Machine

/-! ## The latched fault -/

/-- No operation but `RESET` takes the fault away: only `TICK` could write it, and it is halted. -/
theorem State.after_fault_of_fault {s : State} (hf : s.fault = true) {i : Instr} (hreset : i ≠ .reset) :
    (s.after i).fault = true := by
  by_cases htick : i = .tick
  · subst htick
    rcases after_tick_cases s with ⟨-, ha⟩ | ⟨hf', -⟩ | ⟨hf', -⟩
    · simp [ha, hf]
    · simp [hf] at hf'
    · simp [hf] at hf'
  · obtain ⟨-, -, hkept, -⟩ := eachRegisterHasOneWriter i s _ (exec_eq_after i s) hreset
    obtain ⟨-, -, -, -, -, -, hfault, -⟩ := hkept htick
    rw [hfault, hf]

theorem State.afterAll_fault_of_fault {s : State} (hf : s.fault = true) {is : List Instr} (hreset : .reset ∉ is) :
    (s.afterAll is).fault = true :=
  List.foldlRecOn (motive := fun t : State => t.fault = true) is State.after hf fun _ ht _ hi =>
    State.after_fault_of_fault ht (ne_of_mem_of_not_mem hi hreset)

@[simp] theorem State.queueContents_restart (s : State) : s.restart.queueContents = [] := by
  simp [State.queueContents, State.qcount]

/-- A `RESET` leaves 0x000A and the two latches in `STATUS` (R41, R224): the tick it schedules does not stall. -/
theorem State.status_restart (s : State) : s.restart.status =
    0x000A#16 ||| (if s.txf then 0x0080#16 else 0#16) ||| (buttonLevels s.cfg s.btn).setWidth 16 <<< 8 := by
  have hstall : s.restart.tstall = false := rfl
  cases hx : s.txf <;> simp [State.status, hstall, hx, flagAt, playbackBit, debounceBit, bufferBit]

/-! ## What an operation answers where it is disabled, and where it is enabled -/

/-- Only `TICK`, `RECHECK` and `CLK` can be disabled, and `CLK` only without a fault. -/
theorem State.disabled_cases {s : State} {i : Instr} (h : s.enables i = false) :
    (i = .tick ∧ s.tickEnabled = false) ∨ (i = .recheck ∧ s.recheckEnabled = false) ∨
      (s.fault = false ∧ ∃ n, i = .clk n ∧ s.clkEnabled n.toNat = false) := by
  cases i with
  | tick => exact .inl ⟨rfl, h⟩
  | recheck => exact .inr (.inl ⟨rfl, h⟩)
  | clk n =>
    refine .inr (.inr ⟨?_, n, rfl, h⟩)
    by_contra hf
    simp [State.clkEnabled, hf] at h
  | nop | enq | enqr | edge | lvl | xdone | txf | rd | reset => simp [State.enables] at h

/-- A disabled operation only answers: `Halted` after a fault, else `NotEnabled`. -/
theorem State.after_of_disabled {s : State} {i : Instr} (h : s.enables i = false) :
    s.after i = s.answer (if s.fault then .halted else .notEnabled) := by
  rcases State.disabled_cases h with ⟨rfl, ht⟩ | ⟨rfl, hr⟩ | ⟨hf, n, rfl, hn⟩
  · rcases after_tick_cases s with ⟨hf, ha⟩ | ⟨hf, -, ha⟩ | ⟨-, ht', -⟩
    · simp [ha, hf]
    · simp [ha, hf]
    · simp [ht] at ht'
  · rcases after_recheck_cases s with ⟨hf, ha⟩ | ⟨hf, -, ha⟩ | ⟨-, hr', -⟩
    · simp [ha, hf]
    · simp [ha, hf]
    · simp [hr] at hr'
  · simp [after_clk_of_disabled hn, hf]

theorem State.fireTick_result_ne_notEnabled (s : State) : s.fireTick.result ≠ some .notEnabled := by
  rcases fireTick_cases s with ⟨-, -, h⟩ | ⟨-, -, h⟩ | ⟨-, -, h⟩ | ⟨-, -, p, -, h⟩ <;> simp [h]

theorem State.after_result_ne_notEnabled {s : State} {i : Instr} (h : s.enables i = true) :
    (s.after i).result ≠ some .notEnabled := by
  cases i with
  | nop => simp [after_nop]
  | enq v => rcases after_enq_cases v s with ⟨-, ha⟩ | ⟨-, -, ha⟩ | ⟨-, -, ha⟩ <;> simp [ha]
  | enqr v d => rcases after_enqr_cases v d s with ⟨-, ha⟩ | ⟨-, ha⟩ <;> simp [ha]
  | edge => rcases after_edge_cases s with ⟨-, ha⟩ | ⟨-, ha⟩ <;> simp [ha]
  | lvl m => simp [after_lvl]
  | xdone => rcases after_xdone_cases s with ⟨-, ha⟩ | ⟨-, -, -, ha⟩ | ⟨-, -, ha⟩ <;> simp [ha]
  | txf f => simp [after_txf]
  | clk n => simp [after_clk_of_enabled h]
  | tick =>
    rw [State.after_tick_of_enabled h]
    exact s.fireTick_result_ne_notEnabled
  | recheck => simp [after_recheck_of_enabled h]
  | rd r => simp [after_rd]
  | reset => simp [after_reset]

/-! ## An operation of a run (R227) -/

@[simp] theorem State.afterAll_cfg (s : State) (is : List Instr) : (s.afterAll is).cfg = s.cfg :=
  List.foldlRecOn (motive := fun t : State => t.cfg = s.cfg) is State.after rfl fun t ht i _ =>
    (t.after_cfg i).trans ht

/-- What stands before an operation of a run is a run, and leaves a state that admits the operation. -/
theorem State.IsRun.split {s : State} {before rest : List Instr} {i : Instr} (h : s.IsRun (before ++ i :: rest)) :
    s.IsRun before ∧ i.wellFormed s.cfg = true ∧ (s.afterAll before).enables i = true := by
  rw [State.isRun_append, State.isRun_cons, State.admits_iff, State.afterAll_cfg] at h
  obtain ⟨hbefore, ⟨hwf, henabled⟩, -⟩ := h
  exact ⟨hbefore, hwf, henabled⟩

/-- From a faulted state, no operation of a run without `RESET` is one of the block's urgent ones: the fault still
stands where the operation does. -/
theorem State.IsRun.ne_of_mem_of_fault {s : State} {is : List Instr} (hrun : s.IsRun is) (hf : s.fault = true)
    (hreset : .reset ∉ is) {i : Instr} (hi : i ∈ is) : i ≠ .tick ∧ i ≠ .recheck := by
  obtain ⟨before, rest, rfl⟩ := List.append_of_mem hi
  obtain ⟨-, -, henabled⟩ := hrun.split
  have hfault : (s.afterAll before).fault = true :=
    State.afterAll_fault_of_fault hf fun h => hreset (List.mem_append_left _ h)
  constructor
  · rintro rfl
    simp [State.tickEnabled, hfault] at henabled
  · rintro rfl
    simp [State.recheckEnabled, hfault] at henabled

end Sys2Proof.Machine
end

section
/-! The statements of the time base and of the host's operations (44_timebase_host.md). -/

namespace Sys2Proof.Machine

/-- Settles O15: both conditions say that nothing urgent is enabled at the start of any unit step. -/
theorem clkEqualsIteratedUnitSteps : Obligations.ClkEqualsIteratedUnitSteps := by
  refine ⟨fun n => spells_encode (i := .clk n) fun _ => rfl, fun s n => ⟨?_, fun hrun => ?_, fun hrun => ?_⟩⟩
  · rw [s.isRun_replicate_clk_one]
    exact forall₂_congr fun _ _ => State.urgentOperation_eq_none_iff
  · have ha := after_clk_of_enabled ((s.clkEnabled_iff_isRun n).2 hrun)
    refine ⟨(exec_eq_after _ s).trans (congrArg _ ha), ?_⟩
    rw [ha, s.elapse_eq_later]
    exact (State.afterAll_replicate_clk_one hrun).symm
  · have hdisabled : s.clkEnabled n.toNat = false := Bool.eq_false_iff.2 (mt (s.clkEnabled_iff_isRun n).1 hrun)
    exact (exec_eq_after _ s).trans (congrArg _ (after_clk_of_disabled hdisabled))

/-- Settles O43: the operations of a run are admitted where they stand, and `RD` is admitted everywhere. -/
theorem runsHoldEnabledOperationsOnly : Obligations.RunsHoldEnabledOperationsOnly := by
  refine ⟨fun s i hdisabled => ⟨?_, ?_⟩, fun s i => State.after_result_ne_notEnabled, fun s before rest i hrun => ?_,
    fun s before hf hrun hreset => ⟨fun hi => ?_, fun hi => ?_⟩, fun cfg btn txf before hrun r => ?_⟩
  · exact (exec_eq_after i s).trans (congrArg _ (State.after_of_disabled hdisabled))
  · exact (State.disabled_cases hdisabled).imp_right (.imp_right fun ⟨hf, n, hi, _⟩ => ⟨hf, n, hi⟩)
  · obtain ⟨hbefore, hwf, henabled⟩ := hrun.split
    exact ⟨hbefore, ⟨encode i, decode_encode hwf⟩, henabled⟩
  · exact (hrun.ne_of_mem_of_fault hf hreset hi).1 rfl
  · exact (hrun.ne_of_mem_of_fault hf hreset hi).2 rfl
  · exact (State.isRun_append ..).2 ⟨hrun, rfl, trivial⟩

/-- Settles O48: two turns settle, and further turns start from the settled state. -/
theorem settleTerminates : Obligations.SettleTerminates := by
  refine fun s => ⟨s.urgentOperation_settle, fun fuel hfuel => ?_⟩
  obtain ⟨more, rfl⟩ := Nat.exists_eq_add_of_le hfuel
  rw [State.settleFor_add]
  exact State.settleFor_of_idle s.urgentOperation_settle more

/-- Settles O2: the registers `restart` writes, field by field; a latched fault outlives every other operation. -/
theorem resetRestoresTableKeepsLatches : Obligations.ResetRestoresTableKeepsLatches := by
  refine ⟨spells_encode (i := .reset) fun _ => rfl, fun s => ⟨_, exec_eq_after _ s, ?_⟩⟩
  rw [after_reset]
  have htable : (s.restart.answer (.ok .done)).AsReset := by constructor <;> rfl
  exact ⟨htable, s.queueContents_restart, rfl, rfl, rfl, s.status_restart,
    fun hf _ => State.after_fault_of_fault hf⟩

/-- Settles O9: the step performs the urgent operation, if there is one. -/
theorem stepPerformsUrgentOperations : Obligations.StepPerformsUrgentOperations := fun _ hevents =>
  ⟨fun hr => step_of_urgentOperation hevents (State.urgentOperation_of_recheckEnabled hr),
    fun _ ht => step_of_urgentOperation hevents (State.urgentOperation_of_tickEnabled ht),
    fun hr ht => step_of_idle hevents (State.urgentOperation_eq_none_iff.2 ⟨hr, ht⟩)⟩

/-- Settles O10: `NOP` only answers. -/
theorem nopChangesNothing : Obligations.NopChangesNothing :=
  ⟨spells_encode (i := .nop) fun _ => rfl, fun s => (exec_eq_after .nop s).trans (congrArg _ (after_nop s))⟩

/-- A register number 8 to 15 is reserved: the word matches the row of `RD`, and its operand names no register (R40,
R100). -/
theorem decode_rd_reserved (cfg : Config) {r : BitVec 4} (hr : 8 ≤ r.toNat) :
    decode cfg (0xA0000000#32 ||| r.setWidth 32) = .error .reservedRegister := by
  have hop : ∀ r : BitVec 4, (0xA0000000#32 ||| r.setWidth 32).extractLsb' 28 4 = 0xA#4 := by decide
  have hmask : ∀ r : BitVec 4, (0xA0000000#32 ||| r.setWidth 32) &&& 0xFFFFFFF0#32 = 0xA0000000#32 := by decide
  have hnumber : (0xA0000000#32 ||| r.setWidth 32).extractLsb' 0 4 = r :=
    extractLsb'_or_setWidth (by decide) r (by decide)
  have hrow : (⟨.rd, 0xA#4, 0xA0000000#32, 0xFFFFFFF0#32⟩ : OpcodeRow) ∈ opcodeTable := by decide
  rw [decode_of_op hrow (hop r), if_pos (hmask r)]
  simp only [operandsOf, hnumber, (RegName.ofNumber_eq_none_iff r).2 hr]

/-- Settles O11: each register's word is the encoder's, and `RD` only answers. -/
theorem rdAnswersRegisterOnly : Obligations.RdAnswersRegisterOnly := by
  have hword (r : RegName) : Spells (encode (.rd r)) (.rd r) .host := spells_encode fun _ => rfl
  have hread (s : State) (r : RegName) : exec (.rd r) s = .next (s.answer (.ok (.value (s.readReg r)))) :=
    (exec_eq_after _ s).trans (congrArg _ (after_rd r s))
  exact ⟨⟨hword .cycle, hword .speed, hword .tickDl, hword .rechkDl, hword .status, hword .qhead, hword .qtail,
      hword .qcount⟩, fun cfg _ => decode_rd_reserved cfg, fun s => ⟨hread s .cycle, hread s .speed,
      hread s .tickDl, hread s .rechkDl, hread s .status, hread s .qhead, hread s .qtail, hread s .qcount⟩⟩

/-- Settles O14: one unit step is enabled exactly when no urgent operation is. -/
theorem clkOneAdvancesOneCycle : Obligations.ClkOneAdvancesOneCycle := by
  refine ⟨spells_encode (i := .clk 1#28) fun _ => rfl, fun s => ⟨fun hf => ?_, fun hr ht => ?_, fun hurgent => ?_⟩⟩
  · exact State.urgentOperation_eq_none_iff.1 (State.urgentOperation_of_fault hf)
  · exact (exec_eq_after _ s).trans (congrArg _ (after_clk_one (State.urgentOperation_eq_none_iff.2 ⟨hr, ht⟩)))
  · have hdisabled : s.clkEnabled 1 = false :=
      Bool.eq_false_iff.2 (mt s.clkEnabled_one_iff.1 (State.urgentOperation_ne_none_iff.2 hurgent))
    exact (exec_eq_after _ s).trans (congrArg _ (after_clk_of_disabled (n := 1#28) hdisabled))

end Sys2Proof.Machine
end

section
/-! What a latched fault halts, what still works, and what stays frozen until `RESET` (R243 to R245). -/

namespace Sys2Proof.Machine

section
variable {s : State} (hf : s.fault = true)
include hf

/-! ## One operation at `FAULT` = 1 (R244) -/

/-- An operation whose whole body stands behind `unlessHalted` only answers `Halted`. -/
theorem exec_of_unlessHalted {i : Instr} {body : State} (hbody : exec i s = .next (unlessHalted s body)) :
    exec i s = .next (s.answer .halted) :=
  hbody.trans (congrArg _ (if_pos hf))

theorem State.clkEnabled_of_fault (n : Nat) : s.clkEnabled n = true := by
  simp [s.clkEnabled_iff, hf]

theorem after_clk_of_fault (n : BitVec 28) : s.after (.clk n) = (s.elapse n).answer (.ok .done) :=
  after_clk_of_enabled (State.clkEnabled_of_fault hf n.toNat)

end

/-! ## A sequence of operations at `FAULT` = 1 (R243, R245) -/

/-- What can differ from a faulted state as long as no `RESET` comes: the counter, the two input latches, and the
outcome recorded. -/
def State.FrozenAs (s t : State) : Prop :=
  ∃ cycle btn txf result, t = { s with cycle := cycle, btn := btn, txf := txf, result := result }

theorem State.FrozenAs.refl (s : State) : s.FrozenAs s := ⟨s.cycle, s.btn, s.txf, s.result, rfl⟩

theorem State.FrozenAs.trans {s t u : State} (hst : s.FrozenAs t) (htu : t.FrozenAs u) : s.FrozenAs u := by
  obtain ⟨_, _, _, _, rfl⟩ := hst
  obtain ⟨cycle, btn, txf, result, rfl⟩ := htu
  exact ⟨cycle, btn, txf, result, rfl⟩

theorem State.FrozenAs.fault {s t : State} (h : s.FrozenAs t) : t.fault = s.fault := by
  obtain ⟨_, _, _, _, rfl⟩ := h
  rfl

theorem State.frozenAs_answer (s : State) (o : EventOutcome) : s.FrozenAs (s.answer o) :=
  ⟨s.cycle, s.btn, s.txf, some o, rfl⟩

/-- Every operation but `RESET` is halted, answers only, or writes the counter or a latch. -/
theorem State.frozenAs_after_of_fault {s : State} (hf : s.fault = true) {i : Instr} (hreset : i ≠ .reset) :
    s.FrozenAs (s.after i) := by
  cases i with
  | enq | enqr | edge | xdone | tick | recheck =>
    rw [after_eq_of_exec (exec_of_unlessHalted hf rfl)]
    exact s.frozenAs_answer .halted
  | clk n =>
    rw [after_clk_of_fault hf]
    exact ⟨s.cycle + n.setWidth 64, s.btn, s.txf, some (.ok .done), rfl⟩
  | lvl m => exact ⟨s.cycle, buttonLevels s.cfg m, s.txf, some (.ok .done), after_lvl m s⟩
  | txf f => exact ⟨s.cycle, s.btn, f, some (.ok .done), after_txf f s⟩
  | rd r =>
    rw [after_rd]
    exact s.frozenAs_answer _
  | nop =>
    rw [after_nop]
    exact s.frozenAs_answer _
  | reset => exact absurd rfl hreset

theorem State.frozenAs_afterAll_of_fault {s : State} (hf : s.fault = true) {is : List Instr} (hreset : .reset ∉ is) :
    s.FrozenAs (s.afterAll is) :=
  List.foldlRecOn (motive := s.FrozenAs) is State.after (.refl s) fun _ ht _ hi =>
    ht.trans (State.frozenAs_after_of_fault (ht.fault.trans hf) (ne_of_mem_of_not_mem hi hreset))

end Sys2Proof.Machine
end

section
/-! The statements of the exceptions chapter (60_exceptions.md). -/

namespace Sys2Proof.Machine

/-- Settles O39: the six operations of R244 stand behind `unlessHalted`, and with a fault no `CLK` is refused. -/
theorem faultHaltsEveryContext : Obligations.FaultHaltsEveryContext := by
  intro s hf
  obtain ⟨-, hnop⟩ := nopChangesNothing
  obtain ⟨-, -, htxf⟩ := txfDrivesItsLatch
  refine ⟨?_, fun n => (exec_eq_after _ s).trans (congrArg _ (after_clk_of_fault hf n)),
    fun m => (exec_eq_after _ s).trans (congrArg _ (after_lvl m s)), fun f => htxf f s,
    fun r => (exec_eq_after _ s).trans (congrArg _ (after_rd r s)), hnop s, _, exec_eq_after _ s, rfl, rfl⟩
  rintro i (rfl | rfl | rfl | rfl | ⟨v, rfl⟩ | ⟨v, d, rfl⟩) <;> exact exec_of_unlessHalted hf rfl

/-- Settles O40: none of the registers named is the counter, a latch or the outcome, and the queue is not made of
them. -/
theorem faultIsStickyUntilReset : Obligations.FaultIsStickyUntilReset := by
  intro s is hf hreset
  obtain ⟨_, _, _, _, ht⟩ := State.frozenAs_afterAll_of_fault hf hreset
  rw [ht]
  exact ⟨hf, rfl, rfl, rfl, rfl, rfl, rfl, rfl⟩

end Sys2Proof.Machine
end
